-- ==== Sys2Proof/Word.lean ====
section
/-! DEFINITION. The two word types of the block: a data byte (also a palette index) and a 32-bit register
word (00_scope.md R6: "the register width is 32 bits", "a data byte is 8 bits", "a palette index is 8 bits"). -/

namespace Sys2Proof

/-- A data byte, and a palette index: both are 8 bits wide (R6). -/
abbrev Byte := BitVec 8

/-- The word a bus access carries: every register is 32 bits wide (R6, R22). -/
abbrev Word := BitVec 32

end Sys2Proof
end

