-- ==== Sys2Proof/Config.lean ====
section
/-! DEFINITION. What an implementation or its platform fixes: the parameters of 00_scope.md R6, and the one
value the spec leaves free (what an SLB byte holds before anything has written it, R40 and U3). -/

namespace Sys2Proof

/-- The implementation parameters of R6. "A model takes each as an argument": a machine state carries them and no
step changes them, so a statement about every state is a statement about every choice of parameters. -/
structure Params where
  /-- bus address of register offset 0x00 (`BASE_ADDR`, OPEN) -/
  baseAddr : Nat
  /-- capacity of the input byte FIFO (`IN_DEPTH`) -/
  inDepth : Nat
  /-- capacity of the compressed-output byte FIFO (`OUT_DEPTH`) -/
  outDepth : Nat
  /-- capacity of the index-output FIFO (`IDX_DEPTH`) -/
  idxDepth : Nat
  /-- size of the scanline buffer in bytes (`SLB_BYTES`) -/
  slbBytes : Nat
deriving DecidableEq, Repr

/-- The constraints of R6's table. -/
def Params.valid (p : Params) : Bool :=
  decide (p.baseAddr % 256 = 0)
    && decide (1 ≤ p.inDepth) && decide (p.inDepth ≤ 65535)
    && decide (2 ≤ p.outDepth) && decide (p.outDepth ≤ 65535)
    && decide (1 ≤ p.idxDepth) && decide (p.idxDepth ≤ 65535)
    && decide (1 ≤ p.slbBytes) && decide (p.slbBytes ≤ 262144)

/-- The defaults of R6's table. `BASE_ADDR` is OPEN there: 0 is this model's own value for it
(DESIGN CHOICE, unsafe, log entry 2). -/
def Params.default : Params :=
  { baseAddr := 0, inDepth := 16, outDepth := 16, idxDepth := 16, slbBytes := 262144 }

/-- FREE VALUE (R40, U3; log entry 1): what SLB byte `a` holds after power-up, before an engine step or a host
write has written it. It has no body, so no proof can know it: "a model must not give an SLB byte that no engine
step and no host write has written any particular value". -/
opaque Config.slbPowerUp : Nat → Byte

end Sys2Proof
end

