-- ==== Sys2Proof/Syntax.lean ====
section
/-! DEFINITION. The syntax of what the host can ask of the block: a raw bus transaction (what stands on the host's
bus), the reasons it can lie outside the interface contract, and Instr, one constructor for each row of
spec/opcode_table.json: the six commands of the CMD word (30_encoding.md R91) and a read and a write of each of the
64 aligned offsets of the register aperture (40_host_ops.md R110 to R130; 20_memory.md R72). -/

namespace Sys2Proof

/-- A transaction on the host's byte-addressed bus (R8, R71, R74): its address, its direction and its width. A read
names how many bytes it asks for; a write carries one byte for each lane, the byte of the lowest address first. -/
inductive BusAccess where
  | read (addr size : Nat)
  | write (addr : Nat) (lanes : List Byte)
deriving DecidableEq, Repr

/-- Why a transaction is outside the block's interface contract (R71, U1). -/
inductive AccessReject where
  /-- the address is not `BASE_ADDR + off` with `off < 256` -/
  | outsideAperture
  /-- the access is not 32 bits wide -/
  | accessWidth
  /-- `off mod 4 ≠ 0` -/
  | misaligned
deriving DecidableEq, Repr

/-- The operations of the block, one constructor for each row of spec/opcode_table.json. A write carries its
32-bit data word. -/
inductive Instr where
  /-- `NOP`: CMD word 0x00000000 (R240, R91) -/
  | nop
  /-- `DECOMP`: CMD word 0x00000001 (R140, R91) -/
  | decomp
  /-- `COMP`: CMD word 0x00000002 (R170, R91) -/
  | comp
  /-- `COMP.P`: CMD word 0x00000012 (R170, R91) -/
  | compP
  /-- `UNPACK`: CMD word 0x00000003 (R200, R91) -/
  | unpack
  /-- `DROW`: CMD word 0x00000004 (R242, R91) -/
  | drow
  /-- `RD` at offset 0x00: RD_ID (R111) -/
  | rdId
  /-- `WR` at offset 0x04: WR_CTRL (R112) -/
  | wrCtrl (d : Word)
  /-- `RD` at offset 0x08: RD_STATUS (R113) -/
  | rdStatus
  /-- `WR` at offset 0x08: WR_STATUS (R114) -/
  | wrStatus (d : Word)
  /-- `WR CMD, d` with d none of the six legal words: an illegal command word (R129, R96) -/
  | wrCmd (d : Word)
  /-- `RD` at offset 0x0C: RD_CMD (R129) -/
  | rdCmd
  /-- `WR` at offset 0x10: WR_LEN (R121) -/
  | wrLen (d : Word)
  /-- `RD` at offset 0x10: RD_LEN (R121) -/
  | rdLen
  /-- `WR` at offset 0x14: WR_GEOM (R122) -/
  | wrGeom (d : Word)
  /-- `RD` at offset 0x14: RD_GEOM (R122) -/
  | rdGeom
  /-- `WR` at offset 0x18: WR_WIDTH (R123) -/
  | wrWidth (d : Word)
  /-- `RD` at offset 0x18: RD_WIDTH (R123) -/
  | rdWidth
  /-- `WR` at offset 0x1C: WR_IRQ_EN (R124) -/
  | wrIrqEn (d : Word)
  /-- `RD` at offset 0x1C: RD_IRQ_EN (R124) -/
  | rdIrqEn
  /-- `WR` at offset 0x20: WR_IN_DATA (R115) -/
  | wrInData (d : Word)
  /-- `WR` at offset 0x24: WR_IN_CTRL (R117) -/
  | wrInCtrl (d : Word)
  /-- `RD` at offset 0x24: RD_IN_CTRL (R116) -/
  | rdInCtrl
  /-- `RD` at offset 0x28: RD_OUT_DATA (R119) -/
  | rdOutData
  /-- `RD` at offset 0x2C: RD_IDX_DATA (R120) -/
  | rdIdxData
  /-- `RD` at offset 0x30: RD_LEVELS (R118) -/
  | rdLevels
  /-- `WR` at offset 0x34: WR_SLB_ADDR (R125) -/
  | wrSlbAddr (d : Word)
  /-- `RD` at offset 0x34: RD_SLB_ADDR (R125) -/
  | rdSlbAddr
  /-- `RD` at offset 0x38: RD_SLB_DATA (R126) -/
  | rdSlbData
  /-- `WR` at offset 0x38: WR_SLB_DATA (R127) -/
  | wrSlbData (d : Word)
  /-- `RD` at offset 0x3C: RD_IN_COUNT (R128) -/
  | rdInCount
  /-- `RD` at offset 0x40: RD_OUT_COUNT (R128) -/
  | rdOutCount
  /-- `RD` at offset 0x44: RD_SLB_COUNT (R128) -/
  | rdSlbCount
  /-- `RD` at offset 0x48: RD_IDX_COUNT (R128) -/
  | rdIdxCount
  /-- `WR` at offset 0x00: WR_ID (R130) -/
  | wrId (d : Word)
  /-- `RD` at offset 0x04: RD_CTRL (R130) -/
  | rdCtrl
  /-- `RD` at offset 0x20: RD_IN_DATA (R130) -/
  | rdInData
  /-- `WR` at offset 0x28: WR_OUT_DATA (R130) -/
  | wrOutData (d : Word)
  /-- `WR` at offset 0x2C: WR_IDX_DATA (R130) -/
  | wrIdxData (d : Word)
  /-- `WR` at offset 0x30: WR_LEVELS (R130) -/
  | wrLevels (d : Word)
  /-- `WR` at offset 0x3C: WR_IN_COUNT (R130) -/
  | wrInCount (d : Word)
  /-- `WR` at offset 0x40: WR_OUT_COUNT (R130) -/
  | wrOutCount (d : Word)
  /-- `WR` at offset 0x44: WR_SLB_COUNT (R130) -/
  | wrSlbCount (d : Word)
  /-- `WR` at offset 0x48: WR_IDX_COUNT (R130) -/
  | wrIdxCount (d : Word)
  /-- `RD` at offset 0x4C: RD_unmapped_0x4C (R72) -/
  | rdUnmapped4C
  /-- `WR` at offset 0x4C: WR_unmapped_0x4C (R72) -/
  | wrUnmapped4C (d : Word)
  /-- `RD` at offset 0x50: RD_unmapped_0x50 (R72) -/
  | rdUnmapped50
  /-- `WR` at offset 0x50: WR_unmapped_0x50 (R72) -/
  | wrUnmapped50 (d : Word)
  /-- `RD` at offset 0x54: RD_unmapped_0x54 (R72) -/
  | rdUnmapped54
  /-- `WR` at offset 0x54: WR_unmapped_0x54 (R72) -/
  | wrUnmapped54 (d : Word)
  /-- `RD` at offset 0x58: RD_unmapped_0x58 (R72) -/
  | rdUnmapped58
  /-- `WR` at offset 0x58: WR_unmapped_0x58 (R72) -/
  | wrUnmapped58 (d : Word)
  /-- `RD` at offset 0x5C: RD_unmapped_0x5C (R72) -/
  | rdUnmapped5C
  /-- `WR` at offset 0x5C: WR_unmapped_0x5C (R72) -/
  | wrUnmapped5C (d : Word)
  /-- `RD` at offset 0x60: RD_unmapped_0x60 (R72) -/
  | rdUnmapped60
  /-- `WR` at offset 0x60: WR_unmapped_0x60 (R72) -/
  | wrUnmapped60 (d : Word)
  /-- `RD` at offset 0x64: RD_unmapped_0x64 (R72) -/
  | rdUnmapped64
  /-- `WR` at offset 0x64: WR_unmapped_0x64 (R72) -/
  | wrUnmapped64 (d : Word)
  /-- `RD` at offset 0x68: RD_unmapped_0x68 (R72) -/
  | rdUnmapped68
  /-- `WR` at offset 0x68: WR_unmapped_0x68 (R72) -/
  | wrUnmapped68 (d : Word)
  /-- `RD` at offset 0x6C: RD_unmapped_0x6C (R72) -/
  | rdUnmapped6C
  /-- `WR` at offset 0x6C: WR_unmapped_0x6C (R72) -/
  | wrUnmapped6C (d : Word)
  /-- `RD` at offset 0x70: RD_unmapped_0x70 (R72) -/
  | rdUnmapped70
  /-- `WR` at offset 0x70: WR_unmapped_0x70 (R72) -/
  | wrUnmapped70 (d : Word)
  /-- `RD` at offset 0x74: RD_unmapped_0x74 (R72) -/
  | rdUnmapped74
  /-- `WR` at offset 0x74: WR_unmapped_0x74 (R72) -/
  | wrUnmapped74 (d : Word)
  /-- `RD` at offset 0x78: RD_unmapped_0x78 (R72) -/
  | rdUnmapped78
  /-- `WR` at offset 0x78: WR_unmapped_0x78 (R72) -/
  | wrUnmapped78 (d : Word)
  /-- `RD` at offset 0x7C: RD_unmapped_0x7C (R72) -/
  | rdUnmapped7C
  /-- `WR` at offset 0x7C: WR_unmapped_0x7C (R72) -/
  | wrUnmapped7C (d : Word)
  /-- `RD` at offset 0x80: RD_unmapped_0x80 (R72) -/
  | rdUnmapped80
  /-- `WR` at offset 0x80: WR_unmapped_0x80 (R72) -/
  | wrUnmapped80 (d : Word)
  /-- `RD` at offset 0x84: RD_unmapped_0x84 (R72) -/
  | rdUnmapped84
  /-- `WR` at offset 0x84: WR_unmapped_0x84 (R72) -/
  | wrUnmapped84 (d : Word)
  /-- `RD` at offset 0x88: RD_unmapped_0x88 (R72) -/
  | rdUnmapped88
  /-- `WR` at offset 0x88: WR_unmapped_0x88 (R72) -/
  | wrUnmapped88 (d : Word)
  /-- `RD` at offset 0x8C: RD_unmapped_0x8C (R72) -/
  | rdUnmapped8C
  /-- `WR` at offset 0x8C: WR_unmapped_0x8C (R72) -/
  | wrUnmapped8C (d : Word)
  /-- `RD` at offset 0x90: RD_unmapped_0x90 (R72) -/
  | rdUnmapped90
  /-- `WR` at offset 0x90: WR_unmapped_0x90 (R72) -/
  | wrUnmapped90 (d : Word)
  /-- `RD` at offset 0x94: RD_unmapped_0x94 (R72) -/
  | rdUnmapped94
  /-- `WR` at offset 0x94: WR_unmapped_0x94 (R72) -/
  | wrUnmapped94 (d : Word)
  /-- `RD` at offset 0x98: RD_unmapped_0x98 (R72) -/
  | rdUnmapped98
  /-- `WR` at offset 0x98: WR_unmapped_0x98 (R72) -/
  | wrUnmapped98 (d : Word)
  /-- `RD` at offset 0x9C: RD_unmapped_0x9C (R72) -/
  | rdUnmapped9C
  /-- `WR` at offset 0x9C: WR_unmapped_0x9C (R72) -/
  | wrUnmapped9C (d : Word)
  /-- `RD` at offset 0xA0: RD_unmapped_0xA0 (R72) -/
  | rdUnmappedA0
  /-- `WR` at offset 0xA0: WR_unmapped_0xA0 (R72) -/
  | wrUnmappedA0 (d : Word)
  /-- `RD` at offset 0xA4: RD_unmapped_0xA4 (R72) -/
  | rdUnmappedA4
  /-- `WR` at offset 0xA4: WR_unmapped_0xA4 (R72) -/
  | wrUnmappedA4 (d : Word)
  /-- `RD` at offset 0xA8: RD_unmapped_0xA8 (R72) -/
  | rdUnmappedA8
  /-- `WR` at offset 0xA8: WR_unmapped_0xA8 (R72) -/
  | wrUnmappedA8 (d : Word)
  /-- `RD` at offset 0xAC: RD_unmapped_0xAC (R72) -/
  | rdUnmappedAC
  /-- `WR` at offset 0xAC: WR_unmapped_0xAC (R72) -/
  | wrUnmappedAC (d : Word)
  /-- `RD` at offset 0xB0: RD_unmapped_0xB0 (R72) -/
  | rdUnmappedB0
  /-- `WR` at offset 0xB0: WR_unmapped_0xB0 (R72) -/
  | wrUnmappedB0 (d : Word)
  /-- `RD` at offset 0xB4: RD_unmapped_0xB4 (R72) -/
  | rdUnmappedB4
  /-- `WR` at offset 0xB4: WR_unmapped_0xB4 (R72) -/
  | wrUnmappedB4 (d : Word)
  /-- `RD` at offset 0xB8: RD_unmapped_0xB8 (R72) -/
  | rdUnmappedB8
  /-- `WR` at offset 0xB8: WR_unmapped_0xB8 (R72) -/
  | wrUnmappedB8 (d : Word)
  /-- `RD` at offset 0xBC: RD_unmapped_0xBC (R72) -/
  | rdUnmappedBC
  /-- `WR` at offset 0xBC: WR_unmapped_0xBC (R72) -/
  | wrUnmappedBC (d : Word)
  /-- `RD` at offset 0xC0: RD_unmapped_0xC0 (R72) -/
  | rdUnmappedC0
  /-- `WR` at offset 0xC0: WR_unmapped_0xC0 (R72) -/
  | wrUnmappedC0 (d : Word)
  /-- `RD` at offset 0xC4: RD_unmapped_0xC4 (R72) -/
  | rdUnmappedC4
  /-- `WR` at offset 0xC4: WR_unmapped_0xC4 (R72) -/
  | wrUnmappedC4 (d : Word)
  /-- `RD` at offset 0xC8: RD_unmapped_0xC8 (R72) -/
  | rdUnmappedC8
  /-- `WR` at offset 0xC8: WR_unmapped_0xC8 (R72) -/
  | wrUnmappedC8 (d : Word)
  /-- `RD` at offset 0xCC: RD_unmapped_0xCC (R72) -/
  | rdUnmappedCC
  /-- `WR` at offset 0xCC: WR_unmapped_0xCC (R72) -/
  | wrUnmappedCC (d : Word)
  /-- `RD` at offset 0xD0: RD_unmapped_0xD0 (R72) -/
  | rdUnmappedD0
  /-- `WR` at offset 0xD0: WR_unmapped_0xD0 (R72) -/
  | wrUnmappedD0 (d : Word)
  /-- `RD` at offset 0xD4: RD_unmapped_0xD4 (R72) -/
  | rdUnmappedD4
  /-- `WR` at offset 0xD4: WR_unmapped_0xD4 (R72) -/
  | wrUnmappedD4 (d : Word)
  /-- `RD` at offset 0xD8: RD_unmapped_0xD8 (R72) -/
  | rdUnmappedD8
  /-- `WR` at offset 0xD8: WR_unmapped_0xD8 (R72) -/
  | wrUnmappedD8 (d : Word)
  /-- `RD` at offset 0xDC: RD_unmapped_0xDC (R72) -/
  | rdUnmappedDC
  /-- `WR` at offset 0xDC: WR_unmapped_0xDC (R72) -/
  | wrUnmappedDC (d : Word)
  /-- `RD` at offset 0xE0: RD_unmapped_0xE0 (R72) -/
  | rdUnmappedE0
  /-- `WR` at offset 0xE0: WR_unmapped_0xE0 (R72) -/
  | wrUnmappedE0 (d : Word)
  /-- `RD` at offset 0xE4: RD_unmapped_0xE4 (R72) -/
  | rdUnmappedE4
  /-- `WR` at offset 0xE4: WR_unmapped_0xE4 (R72) -/
  | wrUnmappedE4 (d : Word)
  /-- `RD` at offset 0xE8: RD_unmapped_0xE8 (R72) -/
  | rdUnmappedE8
  /-- `WR` at offset 0xE8: WR_unmapped_0xE8 (R72) -/
  | wrUnmappedE8 (d : Word)
  /-- `RD` at offset 0xEC: RD_unmapped_0xEC (R72) -/
  | rdUnmappedEC
  /-- `WR` at offset 0xEC: WR_unmapped_0xEC (R72) -/
  | wrUnmappedEC (d : Word)
  /-- `RD` at offset 0xF0: RD_unmapped_0xF0 (R72) -/
  | rdUnmappedF0
  /-- `WR` at offset 0xF0: WR_unmapped_0xF0 (R72) -/
  | wrUnmappedF0 (d : Word)
  /-- `RD` at offset 0xF4: RD_unmapped_0xF4 (R72) -/
  | rdUnmappedF4
  /-- `WR` at offset 0xF4: WR_unmapped_0xF4 (R72) -/
  | wrUnmappedF4 (d : Word)
  /-- `RD` at offset 0xF8: RD_unmapped_0xF8 (R72) -/
  | rdUnmappedF8
  /-- `WR` at offset 0xF8: WR_unmapped_0xF8 (R72) -/
  | wrUnmappedF8 (d : Word)
  /-- `RD` at offset 0xFC: RD_unmapped_0xFC (R72) -/
  | rdUnmappedFC
  /-- `WR` at offset 0xFC: WR_unmapped_0xFC (R72) -/
  | wrUnmappedFC (d : Word)
deriving DecidableEq, Repr

/-- The reads of the unmapped offsets 0x4C to 0xFC (R72). -/
def Instr.unmappedReads : List Instr :=
  [Instr.rdUnmapped4C, Instr.rdUnmapped50, Instr.rdUnmapped54, Instr.rdUnmapped58, Instr.rdUnmapped5C, Instr.rdUnmapped60]
    ++ [Instr.rdUnmapped64, Instr.rdUnmapped68, Instr.rdUnmapped6C, Instr.rdUnmapped70, Instr.rdUnmapped74, Instr.rdUnmapped78]
    ++ [Instr.rdUnmapped7C, Instr.rdUnmapped80, Instr.rdUnmapped84, Instr.rdUnmapped88, Instr.rdUnmapped8C, Instr.rdUnmapped90]
    ++ [Instr.rdUnmapped94, Instr.rdUnmapped98, Instr.rdUnmapped9C, Instr.rdUnmappedA0, Instr.rdUnmappedA4, Instr.rdUnmappedA8]
    ++ [Instr.rdUnmappedAC, Instr.rdUnmappedB0, Instr.rdUnmappedB4, Instr.rdUnmappedB8, Instr.rdUnmappedBC, Instr.rdUnmappedC0]
    ++ [Instr.rdUnmappedC4, Instr.rdUnmappedC8, Instr.rdUnmappedCC, Instr.rdUnmappedD0, Instr.rdUnmappedD4, Instr.rdUnmappedD8]
    ++ [Instr.rdUnmappedDC, Instr.rdUnmappedE0, Instr.rdUnmappedE4, Instr.rdUnmappedE8, Instr.rdUnmappedEC, Instr.rdUnmappedF0]
    ++ [Instr.rdUnmappedF4, Instr.rdUnmappedF8, Instr.rdUnmappedFC]

/-- The writes of the unmapped offsets 0x4C to 0xFC, each with the data word `d` (R72). -/
def Instr.unmappedWrites (d : Word) : List Instr :=
  [Instr.wrUnmapped4C d, Instr.wrUnmapped50 d, Instr.wrUnmapped54 d, Instr.wrUnmapped58 d, Instr.wrUnmapped5C d]
    ++ [Instr.wrUnmapped60 d, Instr.wrUnmapped64 d, Instr.wrUnmapped68 d, Instr.wrUnmapped6C d, Instr.wrUnmapped70 d]
    ++ [Instr.wrUnmapped74 d, Instr.wrUnmapped78 d, Instr.wrUnmapped7C d, Instr.wrUnmapped80 d, Instr.wrUnmapped84 d]
    ++ [Instr.wrUnmapped88 d, Instr.wrUnmapped8C d, Instr.wrUnmapped90 d, Instr.wrUnmapped94 d, Instr.wrUnmapped98 d]
    ++ [Instr.wrUnmapped9C d, Instr.wrUnmappedA0 d, Instr.wrUnmappedA4 d, Instr.wrUnmappedA8 d, Instr.wrUnmappedAC d]
    ++ [Instr.wrUnmappedB0 d, Instr.wrUnmappedB4 d, Instr.wrUnmappedB8 d, Instr.wrUnmappedBC d, Instr.wrUnmappedC0 d]
    ++ [Instr.wrUnmappedC4 d, Instr.wrUnmappedC8 d, Instr.wrUnmappedCC d, Instr.wrUnmappedD0 d, Instr.wrUnmappedD4 d]
    ++ [Instr.wrUnmappedD8 d, Instr.wrUnmappedDC d, Instr.wrUnmappedE0 d, Instr.wrUnmappedE4 d, Instr.wrUnmappedE8 d]
    ++ [Instr.wrUnmappedEC d, Instr.wrUnmappedF0 d, Instr.wrUnmappedF4 d, Instr.wrUnmappedF8 d, Instr.wrUnmappedFC d]

end Sys2Proof
end

