-- ==== Sys2Proof/WellFormed.lean ====
section
/-! DEFINITION. Which terms stand for something: an operation in its one canonical spelling, a transaction inside
the interface contract. The constraints on the parameters are Params.valid (Config.lean). -/

namespace Sys2Proof

/-- The six legal CMD words of R97. -/
def legalCmdWords : List Word := [0x00000000, 0x00000001, 0x00000002, 0x00000012, 0x00000003, 0x00000004]

/-- An operation is well formed when it is its own canonical spelling: a write to CMD of one of the six legal words
is spelt by the command's own constructor (R91, R103; log entry 7), so `wrCmd` is left for the words that are
none of them. Every other operation is well formed with every data word. -/
def Instr.wf : Instr → Bool
  | .wrCmd d => !legalCmdWords.contains d
  | .nop | .decomp | .comp | .compP | .unpack | .drow | .rdId | .wrCtrl _ | .rdStatus | .wrStatus _ | .rdCmd
  | .wrLen _ | .rdLen | .wrGeom _ | .rdGeom | .wrWidth _ | .rdWidth | .wrIrqEn _ | .rdIrqEn | .wrInData _
  | .wrInCtrl _ | .rdInCtrl | .rdOutData | .rdIdxData | .rdLevels | .wrSlbAddr _ | .rdSlbAddr | .rdSlbData
  | .wrSlbData _ | .rdInCount | .rdOutCount | .rdSlbCount | .rdIdxCount | .wrId _ | .rdCtrl | .rdInData
  | .wrOutData _ | .wrIdxData _ | .wrLevels _ | .wrInCount _ | .wrOutCount _ | .wrSlbCount _ | .wrIdxCount _
  | .rdUnmapped4C | .wrUnmapped4C _ | .rdUnmapped50 | .wrUnmapped50 _ | .rdUnmapped54 | .wrUnmapped54 _
  | .rdUnmapped58 | .wrUnmapped58 _ | .rdUnmapped5C | .wrUnmapped5C _ | .rdUnmapped60 | .wrUnmapped60 _
  | .rdUnmapped64 | .wrUnmapped64 _ | .rdUnmapped68 | .wrUnmapped68 _ | .rdUnmapped6C | .wrUnmapped6C _
  | .rdUnmapped70 | .wrUnmapped70 _ | .rdUnmapped74 | .wrUnmapped74 _ | .rdUnmapped78 | .wrUnmapped78 _
  | .rdUnmapped7C | .wrUnmapped7C _ | .rdUnmapped80 | .wrUnmapped80 _ | .rdUnmapped84 | .wrUnmapped84 _
  | .rdUnmapped88 | .wrUnmapped88 _ | .rdUnmapped8C | .wrUnmapped8C _ | .rdUnmapped90 | .wrUnmapped90 _
  | .rdUnmapped94 | .wrUnmapped94 _ | .rdUnmapped98 | .wrUnmapped98 _ | .rdUnmapped9C | .wrUnmapped9C _
  | .rdUnmappedA0 | .wrUnmappedA0 _ | .rdUnmappedA4 | .wrUnmappedA4 _ | .rdUnmappedA8 | .wrUnmappedA8 _
  | .rdUnmappedAC | .wrUnmappedAC _ | .rdUnmappedB0 | .wrUnmappedB0 _ | .rdUnmappedB4 | .wrUnmappedB4 _
  | .rdUnmappedB8 | .wrUnmappedB8 _ | .rdUnmappedBC | .wrUnmappedBC _ | .rdUnmappedC0 | .wrUnmappedC0 _
  | .rdUnmappedC4 | .wrUnmappedC4 _ | .rdUnmappedC8 | .wrUnmappedC8 _ | .rdUnmappedCC | .wrUnmappedCC _
  | .rdUnmappedD0 | .wrUnmappedD0 _ | .rdUnmappedD4 | .wrUnmappedD4 _ | .rdUnmappedD8 | .wrUnmappedD8 _
  | .rdUnmappedDC | .wrUnmappedDC _ | .rdUnmappedE0 | .wrUnmappedE0 _ | .rdUnmappedE4 | .wrUnmappedE4 _
  | .rdUnmappedE8 | .wrUnmappedE8 _ | .rdUnmappedEC | .wrUnmappedEC _ | .rdUnmappedF0 | .wrUnmappedF0 _
  | .rdUnmappedF4 | .wrUnmappedF4 _ | .rdUnmappedF8 | .wrUnmappedF8 _ | .rdUnmappedFC | .wrUnmappedFC _ => true

/-- The interface contract of R71: a 32-bit access at `BASE_ADDR + off` with `off mod 4 = 0` and `off < 256`. -/
def BusAccess.inContract (base : Nat) : BusAccess → Bool
  | .read addr size =>
    decide (base ≤ addr) && decide (addr < base + 256) && decide (size = 4) && decide ((addr - base) % 4 = 0)
  | .write addr lanes =>
    decide (base ≤ addr) && decide (addr < base + 256) && decide (lanes.length = 4) && decide ((addr - base) % 4 = 0)

end Sys2Proof
end

