-- ==== Sys2Proof/Decode.lean ====
section
/-! DEFINITION. Decoding a bus transaction into an operation, total on every transaction and rejecting by name, and
the encoder (30_encoding.md R90 to R98, R102, R103; 20_memory.md R71, R72, R74; spec/opcode_table.json). -/

namespace Sys2Proof

/-- The byte lanes of a 32-bit word, little-endian: lane k holds bits [8k+7 : 8k] (R74). -/
def lanesOfWord (d : Word) : List Byte :=
  [d.extractLsb' 0 8, d.extractLsb' 8 8, d.extractLsb' 16 8, d.extractLsb' 24 8]

/-- The 32-bit word on four byte lanes (R74); none when the access is not 32 bits wide (R71). -/
def wordOfLanes : List Byte → Option Word
  | [b0, b1, b2, b3] => some (b3 ++ b2 ++ b1 ++ b0)
  | _ => none

/-- The operation of a word written to CMD: the six legal words are the commands (R91, R97), every other word is an
illegal command word (R96). -/
def decodeCmd (d : Word) : Instr :=
  if d = 0x00000000 then .nop
  else if d = 0x00000001 then .decomp
  else if d = 0x00000002 then .comp
  else if d = 0x00000012 then .compP
  else if d = 0x00000003 then .unpack
  else if d = 0x00000004 then .drow
  else .wrCmd d

/-- The read at offset `off` of the aperture (R22's map, R72, R110); none where `off` is not aligned. -/
def decodeRead (off : Nat) : Option Instr :=
  match off with
  | 0x00 => some .rdId
  | 0x04 => some .rdCtrl
  | 0x08 => some .rdStatus
  | 0x0C => some .rdCmd
  | 0x10 => some .rdLen
  | 0x14 => some .rdGeom
  | 0x18 => some .rdWidth
  | 0x1C => some .rdIrqEn
  | 0x20 => some .rdInData
  | 0x24 => some .rdInCtrl
  | 0x28 => some .rdOutData
  | 0x2C => some .rdIdxData
  | 0x30 => some .rdLevels
  | 0x34 => some .rdSlbAddr
  | 0x38 => some .rdSlbData
  | 0x3C => some .rdInCount
  | 0x40 => some .rdOutCount
  | 0x44 => some .rdSlbCount
  | 0x48 => some .rdIdxCount
  | 0x4C => some .rdUnmapped4C
  | 0x50 => some .rdUnmapped50
  | 0x54 => some .rdUnmapped54
  | 0x58 => some .rdUnmapped58
  | 0x5C => some .rdUnmapped5C
  | 0x60 => some .rdUnmapped60
  | 0x64 => some .rdUnmapped64
  | 0x68 => some .rdUnmapped68
  | 0x6C => some .rdUnmapped6C
  | 0x70 => some .rdUnmapped70
  | 0x74 => some .rdUnmapped74
  | 0x78 => some .rdUnmapped78
  | 0x7C => some .rdUnmapped7C
  | 0x80 => some .rdUnmapped80
  | 0x84 => some .rdUnmapped84
  | 0x88 => some .rdUnmapped88
  | 0x8C => some .rdUnmapped8C
  | 0x90 => some .rdUnmapped90
  | 0x94 => some .rdUnmapped94
  | 0x98 => some .rdUnmapped98
  | 0x9C => some .rdUnmapped9C
  | 0xA0 => some .rdUnmappedA0
  | 0xA4 => some .rdUnmappedA4
  | 0xA8 => some .rdUnmappedA8
  | 0xAC => some .rdUnmappedAC
  | 0xB0 => some .rdUnmappedB0
  | 0xB4 => some .rdUnmappedB4
  | 0xB8 => some .rdUnmappedB8
  | 0xBC => some .rdUnmappedBC
  | 0xC0 => some .rdUnmappedC0
  | 0xC4 => some .rdUnmappedC4
  | 0xC8 => some .rdUnmappedC8
  | 0xCC => some .rdUnmappedCC
  | 0xD0 => some .rdUnmappedD0
  | 0xD4 => some .rdUnmappedD4
  | 0xD8 => some .rdUnmappedD8
  | 0xDC => some .rdUnmappedDC
  | 0xE0 => some .rdUnmappedE0
  | 0xE4 => some .rdUnmappedE4
  | 0xE8 => some .rdUnmappedE8
  | 0xEC => some .rdUnmappedEC
  | 0xF0 => some .rdUnmappedF0
  | 0xF4 => some .rdUnmappedF4
  | 0xF8 => some .rdUnmappedF8
  | 0xFC => some .rdUnmappedFC
  | _ => none

/-- The write of `d` at offset `off` of the aperture (R22's map, R72, R110); none where `off` is not aligned. -/
def decodeWrite (off : Nat) (d : Word) : Option Instr :=
  match off with
  | 0x00 => some (.wrId d)
  | 0x04 => some (.wrCtrl d)
  | 0x08 => some (.wrStatus d)
  | 0x0C => some (decodeCmd d)
  | 0x10 => some (.wrLen d)
  | 0x14 => some (.wrGeom d)
  | 0x18 => some (.wrWidth d)
  | 0x1C => some (.wrIrqEn d)
  | 0x20 => some (.wrInData d)
  | 0x24 => some (.wrInCtrl d)
  | 0x28 => some (.wrOutData d)
  | 0x2C => some (.wrIdxData d)
  | 0x30 => some (.wrLevels d)
  | 0x34 => some (.wrSlbAddr d)
  | 0x38 => some (.wrSlbData d)
  | 0x3C => some (.wrInCount d)
  | 0x40 => some (.wrOutCount d)
  | 0x44 => some (.wrSlbCount d)
  | 0x48 => some (.wrIdxCount d)
  | 0x4C => some (.wrUnmapped4C d)
  | 0x50 => some (.wrUnmapped50 d)
  | 0x54 => some (.wrUnmapped54 d)
  | 0x58 => some (.wrUnmapped58 d)
  | 0x5C => some (.wrUnmapped5C d)
  | 0x60 => some (.wrUnmapped60 d)
  | 0x64 => some (.wrUnmapped64 d)
  | 0x68 => some (.wrUnmapped68 d)
  | 0x6C => some (.wrUnmapped6C d)
  | 0x70 => some (.wrUnmapped70 d)
  | 0x74 => some (.wrUnmapped74 d)
  | 0x78 => some (.wrUnmapped78 d)
  | 0x7C => some (.wrUnmapped7C d)
  | 0x80 => some (.wrUnmapped80 d)
  | 0x84 => some (.wrUnmapped84 d)
  | 0x88 => some (.wrUnmapped88 d)
  | 0x8C => some (.wrUnmapped8C d)
  | 0x90 => some (.wrUnmapped90 d)
  | 0x94 => some (.wrUnmapped94 d)
  | 0x98 => some (.wrUnmapped98 d)
  | 0x9C => some (.wrUnmapped9C d)
  | 0xA0 => some (.wrUnmappedA0 d)
  | 0xA4 => some (.wrUnmappedA4 d)
  | 0xA8 => some (.wrUnmappedA8 d)
  | 0xAC => some (.wrUnmappedAC d)
  | 0xB0 => some (.wrUnmappedB0 d)
  | 0xB4 => some (.wrUnmappedB4 d)
  | 0xB8 => some (.wrUnmappedB8 d)
  | 0xBC => some (.wrUnmappedBC d)
  | 0xC0 => some (.wrUnmappedC0 d)
  | 0xC4 => some (.wrUnmappedC4 d)
  | 0xC8 => some (.wrUnmappedC8 d)
  | 0xCC => some (.wrUnmappedCC d)
  | 0xD0 => some (.wrUnmappedD0 d)
  | 0xD4 => some (.wrUnmappedD4 d)
  | 0xD8 => some (.wrUnmappedD8 d)
  | 0xDC => some (.wrUnmappedDC d)
  | 0xE0 => some (.wrUnmappedE0 d)
  | 0xE4 => some (.wrUnmappedE4 d)
  | 0xE8 => some (.wrUnmappedE8 d)
  | 0xEC => some (.wrUnmappedEC d)
  | 0xF0 => some (.wrUnmappedF0 d)
  | 0xF4 => some (.wrUnmappedF4 d)
  | 0xF8 => some (.wrUnmappedF8 d)
  | 0xFC => some (.wrUnmappedFC d)
  | _ => none

/-- The operation a transaction asks of the block at `base`, or the reason it is outside the contract (R71, U1):
first whether it is addressed to the aperture, then its width, then its alignment. -/
def decode (base : Nat) (a : BusAccess) : Except AccessReject Instr :=
  match a with
  | .read addr size =>
    if addr < base ∨ base + 256 ≤ addr then .error .outsideAperture
    else if size ≠ 4 then .error .accessWidth
    else
      match decodeRead (addr - base) with
      | some i => .ok i
      | none => .error .misaligned
  | .write addr lanes =>
    if addr < base ∨ base + 256 ≤ addr then .error .outsideAperture
    else
      match wordOfLanes lanes with
      | none => .error .accessWidth
      | some d =>
        match decodeWrite (addr - base) d with
        | some i => .ok i
        | none => .error .misaligned

/-- A 32-bit read at offset `off` (`R off`, R102). -/
def readAt (base off : Nat) : BusAccess := .read (base + off) 4

/-- A 32-bit write of `d` at offset `off` (`W off data`, R102). -/
def writeAt (base off : Nat) (d : Word) : BusAccess := .write (base + off) (lanesOfWord d)

/-- The transaction of an operation (R91, R102, R103): a command is a write of its word to CMD. -/
def encode (base : Nat) : Instr → BusAccess
  | .nop => writeAt base 0x0C 0x00000000
  | .decomp => writeAt base 0x0C 0x00000001
  | .comp => writeAt base 0x0C 0x00000002
  | .compP => writeAt base 0x0C 0x00000012
  | .unpack => writeAt base 0x0C 0x00000003
  | .drow => writeAt base 0x0C 0x00000004
  | .rdId => readAt base 0x00
  | .wrCtrl d => writeAt base 0x04 d
  | .rdStatus => readAt base 0x08
  | .wrStatus d => writeAt base 0x08 d
  | .wrCmd d => writeAt base 0x0C d
  | .rdCmd => readAt base 0x0C
  | .wrLen d => writeAt base 0x10 d
  | .rdLen => readAt base 0x10
  | .wrGeom d => writeAt base 0x14 d
  | .rdGeom => readAt base 0x14
  | .wrWidth d => writeAt base 0x18 d
  | .rdWidth => readAt base 0x18
  | .wrIrqEn d => writeAt base 0x1C d
  | .rdIrqEn => readAt base 0x1C
  | .wrInData d => writeAt base 0x20 d
  | .wrInCtrl d => writeAt base 0x24 d
  | .rdInCtrl => readAt base 0x24
  | .rdOutData => readAt base 0x28
  | .rdIdxData => readAt base 0x2C
  | .rdLevels => readAt base 0x30
  | .wrSlbAddr d => writeAt base 0x34 d
  | .rdSlbAddr => readAt base 0x34
  | .rdSlbData => readAt base 0x38
  | .wrSlbData d => writeAt base 0x38 d
  | .rdInCount => readAt base 0x3C
  | .rdOutCount => readAt base 0x40
  | .rdSlbCount => readAt base 0x44
  | .rdIdxCount => readAt base 0x48
  | .wrId d => writeAt base 0x00 d
  | .rdCtrl => readAt base 0x04
  | .rdInData => readAt base 0x20
  | .wrOutData d => writeAt base 0x28 d
  | .wrIdxData d => writeAt base 0x2C d
  | .wrLevels d => writeAt base 0x30 d
  | .wrInCount d => writeAt base 0x3C d
  | .wrOutCount d => writeAt base 0x40 d
  | .wrSlbCount d => writeAt base 0x44 d
  | .wrIdxCount d => writeAt base 0x48 d
  | .rdUnmapped4C => readAt base 0x4C
  | .wrUnmapped4C d => writeAt base 0x4C d
  | .rdUnmapped50 => readAt base 0x50
  | .wrUnmapped50 d => writeAt base 0x50 d
  | .rdUnmapped54 => readAt base 0x54
  | .wrUnmapped54 d => writeAt base 0x54 d
  | .rdUnmapped58 => readAt base 0x58
  | .wrUnmapped58 d => writeAt base 0x58 d
  | .rdUnmapped5C => readAt base 0x5C
  | .wrUnmapped5C d => writeAt base 0x5C d
  | .rdUnmapped60 => readAt base 0x60
  | .wrUnmapped60 d => writeAt base 0x60 d
  | .rdUnmapped64 => readAt base 0x64
  | .wrUnmapped64 d => writeAt base 0x64 d
  | .rdUnmapped68 => readAt base 0x68
  | .wrUnmapped68 d => writeAt base 0x68 d
  | .rdUnmapped6C => readAt base 0x6C
  | .wrUnmapped6C d => writeAt base 0x6C d
  | .rdUnmapped70 => readAt base 0x70
  | .wrUnmapped70 d => writeAt base 0x70 d
  | .rdUnmapped74 => readAt base 0x74
  | .wrUnmapped74 d => writeAt base 0x74 d
  | .rdUnmapped78 => readAt base 0x78
  | .wrUnmapped78 d => writeAt base 0x78 d
  | .rdUnmapped7C => readAt base 0x7C
  | .wrUnmapped7C d => writeAt base 0x7C d
  | .rdUnmapped80 => readAt base 0x80
  | .wrUnmapped80 d => writeAt base 0x80 d
  | .rdUnmapped84 => readAt base 0x84
  | .wrUnmapped84 d => writeAt base 0x84 d
  | .rdUnmapped88 => readAt base 0x88
  | .wrUnmapped88 d => writeAt base 0x88 d
  | .rdUnmapped8C => readAt base 0x8C
  | .wrUnmapped8C d => writeAt base 0x8C d
  | .rdUnmapped90 => readAt base 0x90
  | .wrUnmapped90 d => writeAt base 0x90 d
  | .rdUnmapped94 => readAt base 0x94
  | .wrUnmapped94 d => writeAt base 0x94 d
  | .rdUnmapped98 => readAt base 0x98
  | .wrUnmapped98 d => writeAt base 0x98 d
  | .rdUnmapped9C => readAt base 0x9C
  | .wrUnmapped9C d => writeAt base 0x9C d
  | .rdUnmappedA0 => readAt base 0xA0
  | .wrUnmappedA0 d => writeAt base 0xA0 d
  | .rdUnmappedA4 => readAt base 0xA4
  | .wrUnmappedA4 d => writeAt base 0xA4 d
  | .rdUnmappedA8 => readAt base 0xA8
  | .wrUnmappedA8 d => writeAt base 0xA8 d
  | .rdUnmappedAC => readAt base 0xAC
  | .wrUnmappedAC d => writeAt base 0xAC d
  | .rdUnmappedB0 => readAt base 0xB0
  | .wrUnmappedB0 d => writeAt base 0xB0 d
  | .rdUnmappedB4 => readAt base 0xB4
  | .wrUnmappedB4 d => writeAt base 0xB4 d
  | .rdUnmappedB8 => readAt base 0xB8
  | .wrUnmappedB8 d => writeAt base 0xB8 d
  | .rdUnmappedBC => readAt base 0xBC
  | .wrUnmappedBC d => writeAt base 0xBC d
  | .rdUnmappedC0 => readAt base 0xC0
  | .wrUnmappedC0 d => writeAt base 0xC0 d
  | .rdUnmappedC4 => readAt base 0xC4
  | .wrUnmappedC4 d => writeAt base 0xC4 d
  | .rdUnmappedC8 => readAt base 0xC8
  | .wrUnmappedC8 d => writeAt base 0xC8 d
  | .rdUnmappedCC => readAt base 0xCC
  | .wrUnmappedCC d => writeAt base 0xCC d
  | .rdUnmappedD0 => readAt base 0xD0
  | .wrUnmappedD0 d => writeAt base 0xD0 d
  | .rdUnmappedD4 => readAt base 0xD4
  | .wrUnmappedD4 d => writeAt base 0xD4 d
  | .rdUnmappedD8 => readAt base 0xD8
  | .wrUnmappedD8 d => writeAt base 0xD8 d
  | .rdUnmappedDC => readAt base 0xDC
  | .wrUnmappedDC d => writeAt base 0xDC d
  | .rdUnmappedE0 => readAt base 0xE0
  | .wrUnmappedE0 d => writeAt base 0xE0 d
  | .rdUnmappedE4 => readAt base 0xE4
  | .wrUnmappedE4 d => writeAt base 0xE4 d
  | .rdUnmappedE8 => readAt base 0xE8
  | .wrUnmappedE8 d => writeAt base 0xE8 d
  | .rdUnmappedEC => readAt base 0xEC
  | .wrUnmappedEC d => writeAt base 0xEC d
  | .rdUnmappedF0 => readAt base 0xF0
  | .wrUnmappedF0 d => writeAt base 0xF0 d
  | .rdUnmappedF4 => readAt base 0xF4
  | .wrUnmappedF4 d => writeAt base 0xF4 d
  | .rdUnmappedF8 => readAt base 0xF8
  | .wrUnmappedF8 d => writeAt base 0xF8 d
  | .rdUnmappedFC => readAt base 0xFC
  | .wrUnmappedFC d => writeAt base 0xFC d

/-- The transaction a row of spec/opcode_table.json stands for, from the bits the table numbers (log entry 6). A CMD
row is 32 bits: the whole word written to CMD. An MMIO row is 8 bits: the register offset alone. The table gives
the direction no bit, so in such a row it is one of the "bits above nbits", which are 0: a read. -/
def tableAccess (base nbits w : Nat) : Option BusAccess :=
  if nbits = 32 then some (writeAt base 0x0C (BitVec.ofNat 32 w))
  else if nbits = 8 then some (readAt base (w % 256))
  else none

/-- The operation the decoder reads from a table row's bits, at the default parameters (log entry 6). -/
def decodeTableWord (nbits w : Nat) : Option Instr :=
  match tableAccess Params.default.baseAddr nbits w with
  | some a =>
    match decode Params.default.baseAddr a with
    | .ok i => some i
    | .error _ => none
  | none => none

end Sys2Proof
end

