-- ==== Sys2Proof/Machine/State.lean ====
section
/-! DEFINITION. The state of the block: every register, storage and hidden engine field 10_state.md gives it, with
the parameters of 00_scope.md R6 and the model's own three fields (`params`, `rdata`, `events`); the reasons a step
can stop; the state after reset (10_state.md R52). -/

namespace Sys2Proof.Machine

/-- The engine's phase (R45). -/
inductive Phase where
  /-- no command is in progress -/
  | idle
  /-- a decompression: DECOMP, or the first phase of DROW -/
  | dec
  /-- a compression -/
  | cmp
  /-- an index extraction: UNPACK, or the second phase of DROW -/
  | unp
deriving DecidableEq, Repr

/-- The command in progress (R46). -/
inductive Op where
  | decomp | comp | unpack | drow
deriving DecidableEq, Repr

/-- The values of STATUS.ERRCODE (R251). "Codes 8 to 15 are never produced", so the type leaves them out (U7). -/
inductive ErrorCode where
  /-- code 0: ERR = 0 -/
  | none
  /-- code 1 -/
  | streamTruncated
  /-- code 2 -/
  | runOverrun
  /-- code 3 -/
  | unsupportedBitDepth
  /-- code 4 -/
  | corruptDimensions
  /-- code 5 -/
  | unsupportedVariant
  /-- code 6 -/
  | lenRange
  /-- code 7 -/
  | illegalCmd
deriving DecidableEq, Repr

/-- What the world outside the engine does next (R2, R80, R280): a host access, a turn given to the engine, or an
assertion of the reset input. The interleaving of the two agents is a list of these (log entry 4). -/
inductive Event where
  /-- the host performs this bus transaction -/
  | host (a : BusAccess)
  /-- the engine may take its next step, if it has one -/
  | engine
  /-- the platform asserts the reset input (R280) -/
  | hardReset
deriving DecidableEq, Repr

/-- A memory: the bytes that have been written, with their addresses. An unlisted address reads as no value
(log entry 1). -/
abbrev Memory := List Host.Cell

/-- The canonical form of a memory: addresses strictly rising. No listed entry can equal what an unlisted address
reads as, since that is no value. -/
abbrev Memory.wf (m : Memory) : Prop := m.Pairwise (fun x y => x.1 < y.1)

/-- The state of one instance of the block. -/
structure State where
  /-- the implementation parameters (R6): constant in every run -/
  params : Params
  /-- LEN (R32) -/
  len : BitVec 32
  /-- GEOM.BPS (R33) -/
  bps : BitVec 4
  /-- GEOM.PLANES (R33) -/
  planes : BitVec 4
  /-- GEOM.BPL (R33) -/
  bpl : BitVec 16
  /-- WIDTH (R34) -/
  width : BitVec 17
  /-- IRQ_EN.DONE_IE (R35) -/
  doneIe : Bool
  /-- IRQ_EN.ERR_IE (R35) -/
  errIe : Bool
  /-- IRQ_EN.HERR_IE (R35) -/
  herrIe : Bool
  /-- SLB_ADDR (R37) -/
  slbAddr : BitVec 18
  /-- STATUS.DONE (R27) -/
  done : Bool
  /-- STATUS.ERR (R28) -/
  err : Bool
  /-- STATUS.ERRCODE (R28, R251) -/
  errcode : ErrorCode
  /-- STATUS.HERR (R29) -/
  herr : Bool
  /-- IN_COUNT (R38) -/
  inCount : BitVec 32
  /-- OUT_COUNT (R38) -/
  outCount : BitVec 32
  /-- SLB_COUNT (R39) -/
  slbCount : BitVec 32
  /-- IDX_COUNT (R39) -/
  idxCount : BitVec 32
  /-- the scanline buffer, the bytes written since power-up (R40) -/
  slb : Memory
  /-- the input FIFO, oldest byte first (R41) -/
  inFifo : List Byte
  /-- EOS (R41) -/
  eos : Bool
  /-- the output FIFO, oldest byte first (R42) -/
  outFifo : List Byte
  /-- the index FIFO, oldest index first (R43) -/
  idxFifo : List Byte
  /-- the engine's phase (R45), read as STATUS.PHASE -/
  phase : Phase
  /-- the command in progress (R46) -/
  op : Op
  /-- L_N, the latched target length of a decompression (R47) -/
  lN : BitVec 32
  /-- L_LEN, the latched input length of a compression (R47) -/
  lLen : BitVec 32
  /-- L_PAD (R47) -/
  lPad : Bool
  /-- L_BPS (R47) -/
  lBps : BitVec 4
  /-- L_PLANES (R47) -/
  lPlanes : BitVec 4
  /-- L_BPL (R47) -/
  lBpl : BitVec 16
  /-- L_WIDTH (R47) -/
  lWidth : BitVec 17
  /-- d_wait (R48) -/
  dWait : Bool
  /-- d_cnt (R48) -/
  dCnt : BitVec 6
  /-- c_have (R49) -/
  cHave : Bool
  /-- c_val (R49) -/
  cVal : Byte
  /-- c_cnt (R49) -/
  cCnt : BitVec 6
  /-- c_pad_done (R49) -/
  cPadDone : Bool
  /-- the model's own: the word the last host read returned (DESIGN CHOICE, unsafe, log entry 5) -/
  rdata : Word
  /-- the model's own: what happens next, soonest first (DESIGN CHOICE, log entry 4) -/
  events : List Event
deriving DecidableEq, Repr

/-- The ways the model stops with a fault. No access and no engine step of the block faults (R250): these are two
stops of the engine in states that no run reaches (log entry 9), and both are safe. -/
inductive Fault where
  /-- raised by an engine step that would reach an SLB byte at an address ≥ SLB_BYTES, which the SLB space does not
  have (R70); R141 and R207 say that no command does. Safe: the machine stops where no rule gives an effect. -/
  | slbOutOfRange
  /-- raised by an UNP step whose latched pair (L_PLANES, L_BPS) has mode NONE, for which R210 gives no index; the
  issue-time check R201 keeps every command out of it. Safe: the machine stops where no rule gives an effect. -/
  | noUnpackMode
deriving DecidableEq, Repr

/-- The ways the model refuses. -/
inductive Refusal where
  /-- raised by exec for an instruction that has no meaning yet. Safe: nothing is claimed of it. -/
  | notModelled (mnemonic : String)
  /-- raised by step for a host access outside the interface contract: "its effect on the hardware is
  implementation-defined, and a model refuses it" (R71, U1; log entry 8). Safe: the machine stops. -/
  | badAccess (why : AccessReject)
deriving DecidableEq, Repr

/-- The outcome of one step. -/
abbrev Result := Host.Outcome State Fault Refusal

/-- The state after power-up (R282, R52) of an instance with parameters `p`. `op` and the latched operands are
unspecified there and never read while IDLE (R46, R47, U2): the values named here are this model's
(DESIGN CHOICE, unsafe, log entry 3), as are those of `rdata` and `events` (log entries 5 and 4). -/
def State.powerUp (p : Params) : State :=
  { params := p
    len := 0, bps := 0, planes := 0, bpl := 0, width := 0
    doneIe := false, errIe := false, herrIe := false
    slbAddr := 0
    done := false, err := false, errcode := .none, herr := false
    inCount := 0, outCount := 0, slbCount := 0, idxCount := 0
    slb := [], inFifo := [], eos := false, outFifo := [], idxFifo := []
    phase := .idle, op := .decomp
    lN := 0, lLen := 0, lPad := false, lBps := 0, lPlanes := 0, lBpl := 0, lWidth := 0
    dWait := false, dCnt := 0
    cHave := false, cVal := 0, cCnt := 0, cPadDone := false
    rdata := 0, events := [] }

/-- The machine right after reset: power-up with the default parameters (R6; `BASE_ADDR` is log entry 2). -/
def State.reset : State := State.powerUp Params.default

end Sys2Proof.Machine
end

