-- ==== Sys2Proof/Machine/Ops.lean ====
section
/-! DEFINITION. The named operations over the state that every meaning and every engine step is made of: the memory
and the SLB, the FIFOs (00_scope.md R10), returning a read's word, the host-error flag, raising a command error and
what returns from it (60_exceptions.md R255, R263), completion (44_row_and_control.md R236) and reset
(70_reset_and_hazards.md R280, R281). -/

namespace Sys2Proof.Machine

/-! ## Memory -/

/-- What memory `m` holds at address `a`: no value where nothing has been written. -/
def Memory.read : Memory → Nat → Option Byte
  | [], _ => none
  | (b, v) :: m, a => if a = b then some v else Memory.read m a

/-- Memory `m` after byte `v` is written at address `a`. -/
def Memory.write : Memory → Nat → Byte → Memory
  | [], a, v => [(a, v)]
  | (b, w) :: m, a, v =>
    if a < b then (a, v) :: (b, w) :: m
    else if a = b then (a, v) :: m
    else (b, w) :: Memory.write m a v

/-- Memory `m` after `n` copies of `v` are written at addresses `a` to `a + n - 1`, in ascending order (R141). -/
def Memory.fill (m : Memory) (a : Nat) (v : Byte) : Nat → Memory
  | 0 => m
  | n + 1 => Memory.fill (m.write a v) (a + 1) v n

/-- `SLB[a]` (R10, R40): the byte last written there, or the free value where nothing has been written
(U3, log entry 1). -/
def State.slbByte (s : State) (a : Nat) : Byte :=
  (s.slb.read a).getD (Config.slbPowerUp a)

/-! ## Returning a word, and host errors -/

/-- The host's read returns `v`. -/
def State.ret (s : State) (v : Word) : State := { s with rdata := v }

/-- STATUS.HERR is set by an access the block ignores (R29, R260). -/
def State.setHerr (s : State) : State := { s with herr := true }

/-- STATUS.BUSY: the phase is not IDLE (R26). -/
def State.busy (s : State) : Bool := decide (s.phase ≠ .idle)

/-! ## FIFOs (R10, R41 to R43) -/

/-- A host push into the input FIFO (R115): refused, with HERR, when EOS is set or the FIFO is full. -/
def State.pushIn (s : State) (b : Byte) : State :=
  if s.eos = true ∨ s.inFifo.length = s.params.inDepth then s.setHerr
  else { s with inFifo := s.inFifo ++ [b] }

/-- `InPop()` has taken the oldest byte and left `rest`; IN_COUNT counts it (R10, R38). -/
def State.inPopped (s : State) (rest : List Byte) : State :=
  { s with inFifo := rest, inCount := s.inCount + 1 }

/-- `OutFree()` (R10). -/
def State.outFree (s : State) : Nat := s.params.outDepth - s.outFifo.length

/-- `OutPush(u)` for each byte of `us` in order; OUT_COUNT counts each (R10, R38). -/
def State.outPush (s : State) (us : List Byte) : State :=
  { s with outFifo := s.outFifo ++ us, outCount := s.outCount + BitVec.ofNat 32 us.length }

/-- `IdxFree()` (R10). -/
def State.idxFree (s : State) : Nat := s.params.idxDepth - s.idxFifo.length

/-- `IdxPush(v)`; IDX_COUNT counts it (R10, R39). -/
def State.idxPush (s : State) (v : Byte) : State :=
  { s with idxFifo := s.idxFifo ++ [v], idxCount := s.idxCount + 1 }

/-- The word a successful pop returns: `0x100 | b` (R119). -/
def popWord (b : Byte) : Word := (0 : BitVec 23) ++ (1 : BitVec 1) ++ b

/-- A host pop of the output FIFO (R119): an empty FIFO returns 0 and is no error. -/
def State.popOut (s : State) : State :=
  match s.outFifo with
  | [] => s.ret 0
  | b :: rest => State.ret { s with outFifo := rest } (popWord b)

/-- A host pop of the index FIFO (R120). -/
def State.popIdx (s : State) : State :=
  match s.idxFifo with
  | [] => s.ret 0
  | b :: rest => State.ret { s with idxFifo := rest } (popWord b)

/-! ## The SLB window (R75, R126, R127) -/

/-- The window address moves on by 1 modulo 2^18 (R37, R75). -/
def State.slbAdvance (s : State) : State := { s with slbAddr := s.slbAddr + 1 }

/-- `RD SLB_DATA` (R126). -/
def State.slbWindowRead (s : State) : State :=
  if s.busy then s.setHerr.ret 0
  else if s.slbAddr.toNat < s.params.slbBytes then
    s.slbAdvance.ret ((s.slbByte s.slbAddr.toNat).setWidth 32)
  else s.setHerr.slbAdvance.ret 0

/-- `WR SLB_DATA` of byte `b` (R127). -/
def State.slbWindowWrite (s : State) (b : Byte) : State :=
  if s.busy then s.setHerr
  else if s.slbAddr.toNat < s.params.slbBytes then
    State.slbAdvance { s with slb := s.slb.write s.slbAddr.toNat b }
  else s.setHerr.slbAdvance

/-! ## The end of a command -/

/-- The run state d_wait, d_cnt, c_have, c_val, c_cnt and c_pad_done cleared (R48, R49). -/
def State.clearRun (s : State) : State :=
  { s with dWait := false, dCnt := 0, cHave := false, cVal := 0, cCnt := 0, cPadDone := false }

/-- `raise Error(code)` (R255), the block's taking of an exception: the command ends, the code is recorded, the run
state is cleared, and the counters, the SLB, the FIFOs, EOS, HERR and every RW register are kept. `op` and the latched
operands keep their values too: the spec leaves them unspecified while IDLE (R46, R47, U2: "a model may keep the last
values or any others") and keeping them is this model's choice (DESIGN CHOICE, unsafe, log entry 3). -/
def State.raiseError (s : State) (code : ErrorCode) : State :=
  State.clearRun { s with phase := .idle, err := true, errcode := code }

/-- The host's acknowledgement of an ended command, the block's return from an exception (R263): a write of `d` to
STATUS clears DONE, ERR with ERRCODE, and HERR where its bits 1, 2 and 3 are set (R114). -/
def State.acknowledge (s : State) (d : Word) : State :=
  { s with
    done := s.done && !d.getLsbD 1
    err := s.err && !d.getLsbD 2
    errcode := if d.getLsbD 2 then .none else s.errcode
    herr := s.herr && !d.getLsbD 3 }

/-- `complete()` (R236). `op` and the latched operands, unspecified while IDLE (R46, R47, U2), keep their values: this
model's choice (DESIGN CHOICE, unsafe, log entry 3). -/
def State.complete (s : State) : State :=
  State.clearRun { s with phase := .idle, done := true }

/-- ILLEGAL_CMD (R257): raised before a start, so it clears no counter and no run state. -/
def State.raiseIllegal (s : State) : State :=
  { s with done := false, err := true, errcode := .illegalCmd }

/-! ## Reset -/

/-- What a hardware reset and a soft reset do (R52, R280, R281). The SLB and the parameters are unchanged. `op` and
the latched operands are unspecified afterwards and keep their values here (U2: "a model may keep the last values
or any others"; DESIGN CHOICE, unsafe, log entry 3). -/
def State.resetBlock (s : State) : State :=
  State.clearRun
    { s with
      len := 0, bps := 0, planes := 0, bpl := 0, width := 0
      doneIe := false, errIe := false, herrIe := false
      slbAddr := 0
      done := false, err := false, errcode := .none, herr := false
      inCount := 0, outCount := 0, slbCount := 0, idxCount := 0
      inFifo := [], eos := false, outFifo := [], idxFifo := []
      phase := .idle }

/-- A write of `d` to CTRL (R112): SRST is bit 0. -/
def State.writeCtrl (s : State) (d : Word) : State :=
  if d.getLsbD 0 then s.resetBlock else s

/-- The FLUSH part of a write of `d` to IN_CTRL (R117): refused, with HERR, while BUSY. -/
def State.flushIn (s : State) (d : Word) : State :=
  if d.getLsbD 1 then
    if s.busy then s.setHerr else { s with inFifo := [], eos := false }
  else s

/-- The EOS_SET part of a write of `d` to IN_CTRL (R117). -/
def State.setEos (s : State) (d : Word) : State :=
  if d.getLsbD 0 then { s with eos := true } else s

end Sys2Proof.Machine
end

