-- ==== Sys2Proof/Machine/Operands.lean ====
section
/-! DEFINITION. Operands: the fields of the registers as the host writes and reads them (10_state.md R32 to R37), the
fields and the legality of a CMD word (30_encoding.md R90 to R97), the unpack mode (R94), the unit a run is written
as (R101), the operands a start latches (R95, 44_row_and_control.md R233) and the checks of an issue
(60_exceptions.md R256). -/

namespace Sys2Proof.Machine

/-! ## Register fields -/

/-- The ID register's constant (R23, R111). -/
def idWord : Word := 0x524C4501

/-- GEOM as it is read: BPL in 31:16, zeros in 15:8, PLANES in 7:4, BPS in 3:0 (R33). -/
def State.geomWord (s : State) : Word := s.bpl ++ (0 : BitVec 8) ++ s.planes ++ s.bps

/-- A write of `d` to GEOM: bits 15:8 are not stored (R33, R122). -/
def State.writeGeom (s : State) (d : Word) : State :=
  { s with bps := d.extractLsb' 0 4, planes := d.extractLsb' 4 4, bpl := d.extractLsb' 16 16 }

/-- IRQ_EN as it is read (R35). -/
def State.irqEnWord (s : State) : Word :=
  (0 : BitVec 28) ++ BitVec.ofBool s.herrIe ++ BitVec.ofBool s.errIe ++ BitVec.ofBool s.doneIe ++ (0 : BitVec 1)

/-- A write of `d` to IRQ_EN: only bits 1 to 3 are stored (R35, R124). -/
def State.writeIrqEn (s : State) (d : Word) : State :=
  { s with doneIe := d.getLsbD 1, errIe := d.getLsbD 2, herrIe := d.getLsbD 3 }

/-- IN_CTRL as it is read: IN_LEVEL in 31:16, EOS in bit 0 (R36, R116). -/
def State.inCtrlWord (s : State) : Word :=
  BitVec.ofNat 16 s.inFifo.length ++ (0 : BitVec 15) ++ BitVec.ofBool s.eos

/-- LEVELS as it is read: IDX_LEVEL in 31:16, OUT_LEVEL in 15:0 (R36, R118). -/
def State.levelsWord (s : State) : Word :=
  BitVec.ofNat 16 s.idxFifo.length ++ BitVec.ofNat 16 s.outFifo.length

/-! ## The CMD word -/

/-- OP, bits 3:0 (R90). -/
def cmdOp (d : Word) : BitVec 4 := d.extractLsb' 0 4

/-- P, bit 4 (R90). -/
def cmdPad (d : Word) : Bool := d.getLsbD 4

/-- The reserved bits 31:5 (R90). -/
def cmdReserved (d : Word) : BitVec 27 := d.extractLsb' 5 27

/-- A CMD word is illegal when OP is 0x5 to 0xF, or a reserved bit is 1, or P = 1 and OP ≠ 0x2 (R96). -/
def illegalCmd (d : Word) : Bool :=
  decide (5 ≤ (cmdOp d).toNat) || decide (cmdReserved d ≠ 0) || (cmdPad d && decide (cmdOp d ≠ 2))

/-- The command a legal word starts: none for NOP (R91, R231). -/
def startedOp (d : Word) : Option Op :=
  if cmdOp d = 0 then none
  else if cmdOp d = 1 then some .decomp
  else if cmdOp d = 2 then some .comp
  else if cmdOp d = 3 then some .unpack
  else some .drow

/-! ## The unpack mode -/

/-- The unpack modes of R94. -/
inductive UnpackMode where
  | byte | sub | planar
  /-- no row of the table: error UNSUPPORTED_VARIANT -/
  | none
deriving DecidableEq, Repr

/-- The table of R94. -/
def unpackMode (planes bps : BitVec 4) : UnpackMode :=
  if planes = 1 ∧ bps = 8 then .byte
  else if planes = 1 ∧ (bps = 1 ∨ bps = 2 ∨ bps = 4) then .sub
  else if (planes = 2 ∨ planes = 3 ∨ planes = 4) ∧ bps = 1 then .planar
  else .none

/-! ## Units of the compressed stream -/

/-- Both top bits of a byte are set: it is a run-count byte (R99). -/
def isRunCount (b : Byte) : Bool := decide (b.extractLsb' 6 2 = 3)

/-- The repeat count of a run-count byte: its low 6 bits (R99). -/
def runCount (b : Byte) : BitVec 6 := b.extractLsb' 0 6

/-- `unit(v, n)`: how the compressor writes a run of `n` bytes of value `v`, 1 ≤ n ≤ 63 (R101). -/
def unit (v : Byte) (n : Nat) : List Byte :=
  if n = 1 ∧ isRunCount v = false then [v] else [0xC0#8 ||| BitVec.ofNat 8 n, v]

/-! ## Latching, and the checks of an issue -/

/-- The operands a start of `op` with CMD word `d` latches (R95, R233). -/
def State.latch (s : State) (op : Op) (d : Word) : State :=
  match op with
  | .decomp => { s with lN := s.len }
  | .comp => { s with lLen := s.len, lPad := cmdPad d }
  | .unpack => { s with lBps := s.bps, lPlanes := s.planes, lBpl := s.bpl, lWidth := s.width }
  | .drow =>
    { s with
      lBps := s.bps, lPlanes := s.planes, lBpl := s.bpl, lWidth := s.width
      lN := s.bpl.setWidth 32 * s.planes.setWidth 32 }

/-- `ceil(x / y)` for y > 0 (R9). -/
def ceilDiv (x y : Nat) : Nat := (x + y - 1) / y

/-- The four checks of UNPACK and DROW on the latched operands, in the order of R256: bit depth (R203), dimensions
(R204), variant (R201), length (R202). The first that fails gives the code. -/
def State.geometryError (s : State) : Option ErrorCode :=
  if s.lBps.toNat = 0 ∨ 8 < s.lBps.toNat then some .unsupportedBitDepth
  else if s.lBpl.toNat * s.lPlanes.toNat < ceilDiv (s.lWidth.toNat * s.lBps.toNat * s.lPlanes.toNat) 8 then
    some .corruptDimensions
  else if unpackMode s.lPlanes s.lBps = .none then some .unsupportedVariant
  else if s.params.slbBytes < s.lBpl.toNat * s.lPlanes.toNat then some .lenRange
  else none

/-- The issue-time check of each command (R234, R256), after the latch. -/
def State.issueError (s : State) (op : Op) : Option ErrorCode :=
  match op with
  | .decomp => if s.lN.toNat ≤ s.params.slbBytes then none else some .lenRange
  | .comp => none
  | .unpack => s.geometryError
  | .drow => s.geometryError

/-- The phase a start of `op` enters (R234). -/
def Op.firstPhase : Op → Phase
  | .decomp => .dec
  | .comp => .cmp
  | .unpack => .unp
  | .drow => .dec

end Sys2Proof.Machine
end

