-- ==== Sys2Proof/Machine/Engine.lean ====
section
/-! DEFINITION. The engine's steps: DecStep (41_rle_decompress.md R143), CmpStep (42_rle_compress.md R175), UnpStep
(43_unpack.md R210) and which of them is the engine's (44_row_and_control.md R235). -/

namespace Sys2Proof.Machine

/-- What the engine's next step is (R235, R10). -/
inductive EngineStep where
  /-- the phase is IDLE: the engine never steps -/
  | none
  /-- `hold(IN)`: no step now, for want of input -/
  | holdIn
  /-- `hold(OUT)`: no step now, for want of output space -/
  | holdOut
  /-- the step is taken and leaves this state -/
  | took (s : State)
  /-- a step no rule gives an effect to; no run reaches it (log entry 9) -/
  | stuck (f : Fault)

/-! ## Decompression -/

/-- `EnterUnp()` (R242): DROW goes on to its UNP phase. -/
def State.enterUnp (s : State) : State := { s with dWait := false, dCnt := 0, phase := .unp }

/-- A DEC step writes `m` copies of `v` from `SLB[SLB_COUNT]` on (R141, R143); `after` is what it does then. -/
def State.decWrite (s : State) (v : Byte) (m : Nat) (after : State → State) : EngineStep :=
  if s.slbCount.toNat + m ≤ s.params.slbBytes then
    .took (after
      { s with
        slb := s.slb.fill s.slbCount.toNat v m
        slbCount := s.slbCount + BitVec.ofNat 32 m })
  else .stuck .slbOutOfRange

/-- The case of DecStep that takes the first byte of a unit, `b`, leaving `rest` (R143, R99). -/
def State.decUnitByte (s : State) (b : Byte) (rest : List Byte) : EngineStep :=
  if isRunCount b then .took { s.inPopped rest with dCnt := runCount b, dWait := true }
  else (s.inPopped rest).decWrite b 1 id

/-- The room left of the scanline, `L_N - SLB_COUNT` (R143, R145). SLB_COUNT ≤ L_N in every run (R141). -/
def State.room (s : State) : Nat := s.lN.toNat - s.slbCount.toNat

/-- The case of DecStep that takes the value byte `v` of a run, leaving `rest`: the copies that fit are written, and
a count beyond the room is RUN_OVERRUN (R143, R145, R147). -/
def State.decValueByte (s : State) (v : Byte) (rest : List Byte) : EngineStep :=
  (s.inPopped rest).decWrite v (min s.dCnt.toNat s.room) fun t =>
    let t := { t with dWait := false }
    if s.room < s.dCnt.toNat then t.raiseError .runOverrun else t

/-- DecStep (R143). -/
def State.decStep (s : State) : EngineStep :=
  if s.slbCount = s.lN then
    if s.op = .drow then .took s.enterUnp else .took s.complete
  else
    match s.inFifo with
    | [] => if s.eos then .took (s.raiseError .streamTruncated) else .holdIn
    | b :: rest => if s.dWait then s.decValueByte b rest else s.decUnitByte b rest

/-! ## Compression -/

/-- `EmitUnit(v, n)` (R175). -/
def State.emitUnit (s : State) (v : Byte) (n : BitVec 6) : State := s.outPush (unit v n.toNat)

/-- `Accumulate(b)` (R175): a run is emitted when it reaches 63, or when a different byte follows it. -/
def State.accumulate (s : State) (b : Byte) : State :=
  if s.cHave = true ∧ b = s.cVal then
    let s := { s with cCnt := s.cCnt + 1 }
    if s.cCnt = 63 then { s.emitUnit s.cVal 63 with cHave := false } else s
  else
    let s := if s.cHave then s.emitUnit s.cVal s.cCnt else s
    { s with cVal := b, cCnt := 1, cHave := true }

/-- The padding byte is to be encoded: L_PAD = 1 and L_LEN is odd (R174, R175). -/
def State.needPad (s : State) : Bool := s.lPad && decide (s.lLen.toNat % 2 = 1)

/-- The flush at the end of input (R175): the pending run is emitted and the command completes. -/
def State.cmpFlush (s : State) : State :=
  let s := if s.cHave then s.emitUnit s.cVal s.cCnt else s
  State.complete { s with cHave := false }

/-- CmpStep (R175). -/
def State.cmpStep (s : State) : EngineStep :=
  if s.inCount = s.lLen ∧ (s.needPad = false ∨ s.cPadDone = true) then
    if s.cHave = true ∧ s.outFree < 2 then .holdOut else .took s.cmpFlush
  else if s.inCount < s.lLen then
    match s.inFifo with
    | [] => if s.eos then .took (s.raiseError .streamTruncated) else .holdIn
    | b :: rest => if s.outFree < 2 then .holdOut else .took ((s.inPopped rest).accumulate b)
  else
    if s.outFree < 2 then .holdOut else .took (State.accumulate { s with cPadDone := true } 0x00)

/-! ## Index extraction -/

/-- `Index(x)` in mode SUB from its byte `b` (R212). -/
def subIndex (bps : Nat) (b : Byte) (x : Nat) : Byte :=
  (b >>> (8 - bps * (x % (8 / bps) + 1))) &&& BitVec.ofNat 8 (2 ^ bps - 1)

/-- `Index(x)` in mode PLANAR over the first `planes` planes, plane i giving bit i (R214); `byteAt` reads the SLB. -/
def planarIndex (byteAt : Nat → Byte) (bpl x : Nat) : Nat → Nat
  | 0 => 0
  | i + 1 =>
    planarIndex byteAt bpl x i + (((byteAt (i * bpl + x / 8)).toNat >>> (7 - x % 8)) % 2) <<< i

/-- `Index(x)` (R210, R212, R213, R214) over the bytes `byteAt` of an SLB. -/
def indexOf (byteAt : Nat → Byte) (mode : UnpackMode) (bps planes bpl x : Nat) : Byte :=
  match mode with
  | .byte => byteAt x
  | .sub => subIndex bps (byteAt (x / (8 / bps))) x
  | .planar => BitVec.ofNat 8 (planarIndex byteAt bpl x planes)
  | .none => 0

/-- The SLB addresses the index of column x is read from (R205). -/
def indexAddrs (mode : UnpackMode) (bps planes bpl x : Nat) : List Nat :=
  match mode with
  | .byte => [x]
  | .sub => [x / (8 / bps)]
  | .planar => (List.range planes).map fun i => i * bpl + x / 8
  | .none => []

/-- The mode of the running command: the latched pair decides it (R94, R201, R210). -/
def State.mode (s : State) : UnpackMode := unpackMode s.lPlanes s.lBps

/-- The palette index of column x of the running command (R210). -/
def State.index (s : State) (x : Nat) : Byte :=
  indexOf s.slbByte s.mode s.lBps.toNat s.lPlanes.toNat s.lBpl.toNat x

/-- The SLB addresses column x of the running command is read from (R205). -/
def State.indexReads (s : State) (x : Nat) : List Nat :=
  indexAddrs s.mode s.lBps.toNat s.lPlanes.toNat s.lBpl.toNat x

/-- UnpStep (R210). -/
def State.unpStep (s : State) : EngineStep :=
  if s.idxCount.toNat = s.lWidth.toNat then .took s.complete
  else if s.idxFree = 0 then .holdOut
  else if s.mode = .none then .stuck .noUnpackMode
  else if (s.indexReads s.idxCount.toNat).all (fun a => decide (a < s.params.slbBytes)) then
    .took (s.idxPush (s.index s.idxCount.toNat))
  else .stuck .slbOutOfRange

/-! ## The engine -/

/-- The engine's next step (R235). -/
def State.engineStep (s : State) : EngineStep :=
  match s.phase with
  | .idle => .none
  | .dec => s.decStep
  | .cmp => s.cmpStep
  | .unp => s.unpStep

/-- A turn of the engine: it takes its step if it has one; idle or held, nothing happens (R235, R290; log entry 10). -/
def State.engineTurn (s : State) : Result :=
  match s.engineStep with
  | .none => .next s
  | .holdIn => .next s
  | .holdOut => .next s
  | .took t => .next t
  | .stuck f => .fault f

end Sys2Proof.Machine
end

