-- ==== Sys2Proof/Machine/Command.lean ====
section
/-! DEFINITION. Command issue (44_row_and_control.md R230 to R234) and the meanings of the six commands and of a write
of any other word to CMD. A command's own work is the engine's steps (Engine.lean): the instruction is the issue. -/

namespace Sys2Proof.Machine

/-- What a start clears (R232). -/
def State.clearAtStart (s : State) : State :=
  State.clearRun
    { s with
      done := false, err := false, errcode := .none
      inCount := 0, outCount := 0, slbCount := 0, idxCount := 0 }

/-- `Start(d)` of command `op` (R231): set op, clear (R232), latch (R233), check (R234, R256), enter the phase. -/
def State.start (s : State) (op : Op) (d : Word) : State :=
  let t := (State.clearAtStart { s with op := op }).latch op d
  match t.issueError op with
  | some code => t.raiseError code
  | none => { t with phase := op.firstPhase }

/-- `WriteCMD(d)` (R230). -/
def State.writeCmd (s : State) (d : Word) : State :=
  if s.busy then s.setHerr
  else if illegalCmd d then s.raiseIllegal
  else
    match startedOp d with
    | none => s
    | some op => s.start op d

/-- NOP (R240): CMD word 0x00000000. -/
def execNop (s : State) : Result := .next (s.writeCmd 0x00000000)

/-- DECOMP (R140): CMD word 0x00000001. -/
def execDecomp (s : State) : Result := .next (s.writeCmd 0x00000001)

/-- COMP (R170): CMD word 0x00000002. -/
def execComp (s : State) : Result := .next (s.writeCmd 0x00000002)

/-- COMP.P (R170, R174): CMD word 0x00000012. -/
def execCompP (s : State) : Result := .next (s.writeCmd 0x00000012)

/-- UNPACK (R200): CMD word 0x00000003. -/
def execUnpack (s : State) : Result := .next (s.writeCmd 0x00000003)

/-- DROW (R242): CMD word 0x00000004. -/
def execDrow (s : State) : Result := .next (s.writeCmd 0x00000004)

/-- `WR CMD, d` (R129, R230), for every word d. -/
def execWrCmd (d : Word) (s : State) : Result := .next (s.writeCmd d)

end Sys2Proof.Machine
end

