-- ==== Sys2Proof/Machine/HostData.lean ====
section
/-! DEFINITION. The meanings of the accesses that move data: the FIFO ports and the SLB window
(40_host_ops.md R115 to R120, R126, R127). -/

namespace Sys2Proof.Machine

/-- `WR IN_DATA, d` (R115): bits 31:8 are ignored. -/
def execWrInData (d : Word) (s : State) : Result := .next (s.pushIn (d.extractLsb' 0 8))

/-- `WR IN_CTRL, d` (R117): the FLUSH part first, the EOS_SET part second. -/
def execWrInCtrl (d : Word) (s : State) : Result := .next ((s.flushIn d).setEos d)

/-- `RD IN_CTRL` (R116). -/
def execRdInCtrl (s : State) : Result := .next (s.ret s.inCtrlWord)

/-- `RD OUT_DATA` (R119). -/
def execRdOutData (s : State) : Result := .next s.popOut

/-- `RD IDX_DATA` (R120). -/
def execRdIdxData (s : State) : Result := .next s.popIdx

/-- `RD LEVELS` (R118). -/
def execRdLevels (s : State) : Result := .next (s.ret s.levelsWord)

/-- `RD SLB_DATA` (R126). -/
def execRdSlbData (s : State) : Result := .next s.slbWindowRead

/-- `WR SLB_DATA, d` (R127): bits 31:8 are ignored. -/
def execWrSlbData (d : Word) (s : State) : Result := .next (s.slbWindowWrite (d.extractLsb' 0 8))

end Sys2Proof.Machine
end

