-- ==== Sys2Proof/Machine/HostQuiet.lean ====
section
/-! DEFINITION. The meanings of the accesses that have no effect on the block: those against a register's direction
(40_host_ops.md R130) and those at the unmapped offsets 0x4C to 0xFC (20_memory.md R72). A read returns 0, a write
changes nothing, and neither sets HERR. -/

namespace Sys2Proof.Machine

/-- A read that returns 0 and has no effect (R130, R72). -/
def readsZero (s : State) : Result := .next (s.ret 0)

/-- A write of `d` that has no effect (R130, R72). -/
def writesNothing (_d : Word) (s : State) : Result := .next s

/-- `WR ID, d` (R130). -/
def execWrId (d : Word) (s : State) : Result := writesNothing d s

/-- `RD CTRL` (R130). -/
def execRdCtrl (s : State) : Result := readsZero s

/-- `RD IN_DATA` (R130). -/
def execRdInData (s : State) : Result := readsZero s

/-- `WR OUT_DATA, d` (R130). -/
def execWrOutData (d : Word) (s : State) : Result := writesNothing d s

/-- `WR IDX_DATA, d` (R130). -/
def execWrIdxData (d : Word) (s : State) : Result := writesNothing d s

/-- `WR LEVELS, d` (R130). -/
def execWrLevels (d : Word) (s : State) : Result := writesNothing d s

/-- `WR IN_COUNT, d` (R130). -/
def execWrInCount (d : Word) (s : State) : Result := writesNothing d s

/-- `WR OUT_COUNT, d` (R130). -/
def execWrOutCount (d : Word) (s : State) : Result := writesNothing d s

/-- `WR SLB_COUNT, d` (R130). -/
def execWrSlbCount (d : Word) (s : State) : Result := writesNothing d s

/-- `WR IDX_COUNT, d` (R130). -/
def execWrIdxCount (d : Word) (s : State) : Result := writesNothing d s

/-- `RD 0x4C` (R72). -/
def execRdUnmapped4C (s : State) : Result := readsZero s

/-- `WR 0x4C, d` (R72). -/
def execWrUnmapped4C (d : Word) (s : State) : Result := writesNothing d s

/-- `RD 0x50` (R72). -/
def execRdUnmapped50 (s : State) : Result := readsZero s

/-- `WR 0x50, d` (R72). -/
def execWrUnmapped50 (d : Word) (s : State) : Result := writesNothing d s

/-- `RD 0x54` (R72). -/
def execRdUnmapped54 (s : State) : Result := readsZero s

/-- `WR 0x54, d` (R72). -/
def execWrUnmapped54 (d : Word) (s : State) : Result := writesNothing d s

/-- `RD 0x58` (R72). -/
def execRdUnmapped58 (s : State) : Result := readsZero s

/-- `WR 0x58, d` (R72). -/
def execWrUnmapped58 (d : Word) (s : State) : Result := writesNothing d s

/-- `RD 0x5C` (R72). -/
def execRdUnmapped5C (s : State) : Result := readsZero s

/-- `WR 0x5C, d` (R72). -/
def execWrUnmapped5C (d : Word) (s : State) : Result := writesNothing d s

/-- `RD 0x60` (R72). -/
def execRdUnmapped60 (s : State) : Result := readsZero s

/-- `WR 0x60, d` (R72). -/
def execWrUnmapped60 (d : Word) (s : State) : Result := writesNothing d s

/-- `RD 0x64` (R72). -/
def execRdUnmapped64 (s : State) : Result := readsZero s

/-- `WR 0x64, d` (R72). -/
def execWrUnmapped64 (d : Word) (s : State) : Result := writesNothing d s

/-- `RD 0x68` (R72). -/
def execRdUnmapped68 (s : State) : Result := readsZero s

/-- `WR 0x68, d` (R72). -/
def execWrUnmapped68 (d : Word) (s : State) : Result := writesNothing d s

/-- `RD 0x6C` (R72). -/
def execRdUnmapped6C (s : State) : Result := readsZero s

/-- `WR 0x6C, d` (R72). -/
def execWrUnmapped6C (d : Word) (s : State) : Result := writesNothing d s

/-- `RD 0x70` (R72). -/
def execRdUnmapped70 (s : State) : Result := readsZero s

/-- `WR 0x70, d` (R72). -/
def execWrUnmapped70 (d : Word) (s : State) : Result := writesNothing d s

/-- `RD 0x74` (R72). -/
def execRdUnmapped74 (s : State) : Result := readsZero s

/-- `WR 0x74, d` (R72). -/
def execWrUnmapped74 (d : Word) (s : State) : Result := writesNothing d s

/-- `RD 0x78` (R72). -/
def execRdUnmapped78 (s : State) : Result := readsZero s

/-- `WR 0x78, d` (R72). -/
def execWrUnmapped78 (d : Word) (s : State) : Result := writesNothing d s

/-- `RD 0x7C` (R72). -/
def execRdUnmapped7C (s : State) : Result := readsZero s

/-- `WR 0x7C, d` (R72). -/
def execWrUnmapped7C (d : Word) (s : State) : Result := writesNothing d s

/-- `RD 0x80` (R72). -/
def execRdUnmapped80 (s : State) : Result := readsZero s

/-- `WR 0x80, d` (R72). -/
def execWrUnmapped80 (d : Word) (s : State) : Result := writesNothing d s

/-- `RD 0x84` (R72). -/
def execRdUnmapped84 (s : State) : Result := readsZero s

/-- `WR 0x84, d` (R72). -/
def execWrUnmapped84 (d : Word) (s : State) : Result := writesNothing d s

/-- `RD 0x88` (R72). -/
def execRdUnmapped88 (s : State) : Result := readsZero s

/-- `WR 0x88, d` (R72). -/
def execWrUnmapped88 (d : Word) (s : State) : Result := writesNothing d s

/-- `RD 0x8C` (R72). -/
def execRdUnmapped8C (s : State) : Result := readsZero s

/-- `WR 0x8C, d` (R72). -/
def execWrUnmapped8C (d : Word) (s : State) : Result := writesNothing d s

/-- `RD 0x90` (R72). -/
def execRdUnmapped90 (s : State) : Result := readsZero s

/-- `WR 0x90, d` (R72). -/
def execWrUnmapped90 (d : Word) (s : State) : Result := writesNothing d s

/-- `RD 0x94` (R72). -/
def execRdUnmapped94 (s : State) : Result := readsZero s

/-- `WR 0x94, d` (R72). -/
def execWrUnmapped94 (d : Word) (s : State) : Result := writesNothing d s

/-- `RD 0x98` (R72). -/
def execRdUnmapped98 (s : State) : Result := readsZero s

/-- `WR 0x98, d` (R72). -/
def execWrUnmapped98 (d : Word) (s : State) : Result := writesNothing d s

/-- `RD 0x9C` (R72). -/
def execRdUnmapped9C (s : State) : Result := readsZero s

/-- `WR 0x9C, d` (R72). -/
def execWrUnmapped9C (d : Word) (s : State) : Result := writesNothing d s

/-- `RD 0xA0` (R72). -/
def execRdUnmappedA0 (s : State) : Result := readsZero s

/-- `WR 0xA0, d` (R72). -/
def execWrUnmappedA0 (d : Word) (s : State) : Result := writesNothing d s

/-- `RD 0xA4` (R72). -/
def execRdUnmappedA4 (s : State) : Result := readsZero s

/-- `WR 0xA4, d` (R72). -/
def execWrUnmappedA4 (d : Word) (s : State) : Result := writesNothing d s

/-- `RD 0xA8` (R72). -/
def execRdUnmappedA8 (s : State) : Result := readsZero s

/-- `WR 0xA8, d` (R72). -/
def execWrUnmappedA8 (d : Word) (s : State) : Result := writesNothing d s

/-- `RD 0xAC` (R72). -/
def execRdUnmappedAC (s : State) : Result := readsZero s

/-- `WR 0xAC, d` (R72). -/
def execWrUnmappedAC (d : Word) (s : State) : Result := writesNothing d s

/-- `RD 0xB0` (R72). -/
def execRdUnmappedB0 (s : State) : Result := readsZero s

/-- `WR 0xB0, d` (R72). -/
def execWrUnmappedB0 (d : Word) (s : State) : Result := writesNothing d s

/-- `RD 0xB4` (R72). -/
def execRdUnmappedB4 (s : State) : Result := readsZero s

/-- `WR 0xB4, d` (R72). -/
def execWrUnmappedB4 (d : Word) (s : State) : Result := writesNothing d s

/-- `RD 0xB8` (R72). -/
def execRdUnmappedB8 (s : State) : Result := readsZero s

/-- `WR 0xB8, d` (R72). -/
def execWrUnmappedB8 (d : Word) (s : State) : Result := writesNothing d s

/-- `RD 0xBC` (R72). -/
def execRdUnmappedBC (s : State) : Result := readsZero s

/-- `WR 0xBC, d` (R72). -/
def execWrUnmappedBC (d : Word) (s : State) : Result := writesNothing d s

/-- `RD 0xC0` (R72). -/
def execRdUnmappedC0 (s : State) : Result := readsZero s

/-- `WR 0xC0, d` (R72). -/
def execWrUnmappedC0 (d : Word) (s : State) : Result := writesNothing d s

/-- `RD 0xC4` (R72). -/
def execRdUnmappedC4 (s : State) : Result := readsZero s

/-- `WR 0xC4, d` (R72). -/
def execWrUnmappedC4 (d : Word) (s : State) : Result := writesNothing d s

/-- `RD 0xC8` (R72). -/
def execRdUnmappedC8 (s : State) : Result := readsZero s

/-- `WR 0xC8, d` (R72). -/
def execWrUnmappedC8 (d : Word) (s : State) : Result := writesNothing d s

/-- `RD 0xCC` (R72). -/
def execRdUnmappedCC (s : State) : Result := readsZero s

/-- `WR 0xCC, d` (R72). -/
def execWrUnmappedCC (d : Word) (s : State) : Result := writesNothing d s

/-- `RD 0xD0` (R72). -/
def execRdUnmappedD0 (s : State) : Result := readsZero s

/-- `WR 0xD0, d` (R72). -/
def execWrUnmappedD0 (d : Word) (s : State) : Result := writesNothing d s

/-- `RD 0xD4` (R72). -/
def execRdUnmappedD4 (s : State) : Result := readsZero s

/-- `WR 0xD4, d` (R72). -/
def execWrUnmappedD4 (d : Word) (s : State) : Result := writesNothing d s

/-- `RD 0xD8` (R72). -/
def execRdUnmappedD8 (s : State) : Result := readsZero s

/-- `WR 0xD8, d` (R72). -/
def execWrUnmappedD8 (d : Word) (s : State) : Result := writesNothing d s

/-- `RD 0xDC` (R72). -/
def execRdUnmappedDC (s : State) : Result := readsZero s

/-- `WR 0xDC, d` (R72). -/
def execWrUnmappedDC (d : Word) (s : State) : Result := writesNothing d s

/-- `RD 0xE0` (R72). -/
def execRdUnmappedE0 (s : State) : Result := readsZero s

/-- `WR 0xE0, d` (R72). -/
def execWrUnmappedE0 (d : Word) (s : State) : Result := writesNothing d s

/-- `RD 0xE4` (R72). -/
def execRdUnmappedE4 (s : State) : Result := readsZero s

/-- `WR 0xE4, d` (R72). -/
def execWrUnmappedE4 (d : Word) (s : State) : Result := writesNothing d s

/-- `RD 0xE8` (R72). -/
def execRdUnmappedE8 (s : State) : Result := readsZero s

/-- `WR 0xE8, d` (R72). -/
def execWrUnmappedE8 (d : Word) (s : State) : Result := writesNothing d s

/-- `RD 0xEC` (R72). -/
def execRdUnmappedEC (s : State) : Result := readsZero s

/-- `WR 0xEC, d` (R72). -/
def execWrUnmappedEC (d : Word) (s : State) : Result := writesNothing d s

/-- `RD 0xF0` (R72). -/
def execRdUnmappedF0 (s : State) : Result := readsZero s

/-- `WR 0xF0, d` (R72). -/
def execWrUnmappedF0 (d : Word) (s : State) : Result := writesNothing d s

/-- `RD 0xF4` (R72). -/
def execRdUnmappedF4 (s : State) : Result := readsZero s

/-- `WR 0xF4, d` (R72). -/
def execWrUnmappedF4 (d : Word) (s : State) : Result := writesNothing d s

/-- `RD 0xF8` (R72). -/
def execRdUnmappedF8 (s : State) : Result := readsZero s

/-- `WR 0xF8, d` (R72). -/
def execWrUnmappedF8 (d : Word) (s : State) : Result := writesNothing d s

/-- `RD 0xFC` (R72). -/
def execRdUnmappedFC (s : State) : Result := readsZero s

/-- `WR 0xFC, d` (R72). -/
def execWrUnmappedFC (d : Word) (s : State) : Result := writesNothing d s

end Sys2Proof.Machine
end

