-- ==== Sys2Proof/Machine/Flags.lean ====
section
/-! DEFINITION. The status flags that are computed, not stored (10_state.md R30, R44, R51; 60_exceptions.md R265), the
numbers of the error codes and phases (R25, R45, R251), and the word a read of STATUS returns (40_host_ops.md R113). -/

namespace Sys2Proof.Machine

/-- The number of an error code (R251). -/
def ErrorCode.toBits : ErrorCode → BitVec 4
  | .none => 0
  | .streamTruncated => 1
  | .runOverrun => 2
  | .unsupportedBitDepth => 3
  | .corruptDimensions => 4
  | .unsupportedVariant => 5
  | .lenRange => 6
  | .illegalCmd => 7

/-- The number of a phase (R45). -/
def Phase.toBits : Phase → BitVec 3
  | .idle => 0
  | .dec => 1
  | .cmp => 2
  | .unp => 3

/-- STATUS.IN_WAIT: the engine's next step is hold(IN) (R30). -/
def State.inWait (s : State) : Bool :=
  match s.engineStep with
  | .holdIn => true
  | .none | .holdOut | .took _ | .stuck _ => false

/-- STATUS.OUT_WAIT: the engine's next step is hold(OUT) (R30). -/
def State.outWait (s : State) : Bool :=
  match s.engineStep with
  | .holdOut => true
  | .none | .holdIn | .took _ | .stuck _ => false

/-- The level of the interrupt output, and STATUS.IRQ (R265). -/
def State.irq (s : State) : Bool :=
  (s.done && s.doneIe) || (s.err && s.errIe) || (s.herr && s.herrIe)

/-- STATUS as it is read (R25, R113). -/
def State.statusWord (s : State) : Word :=
  (0 : BitVec 13) ++ s.phase.toBits ++ (0 : BitVec 4) ++ s.errcode.toBits ++ (0 : BitVec 1)
    ++ BitVec.ofBool s.irq ++ BitVec.ofBool s.outWait ++ BitVec.ofBool s.inWait
    ++ BitVec.ofBool s.herr ++ BitVec.ofBool s.err ++ BitVec.ofBool s.done ++ BitVec.ofBool s.busy

end Sys2Proof.Machine
end

