-- ==== Sys2Proof/Machine/HostRegs.lean ====
section
/-! DEFINITION. The meanings of the reads and writes of the control, status, operand and counter registers
(40_host_ops.md R111 to R114, R121 to R125, R128, R129). -/

namespace Sys2Proof.Machine

/-- `RD ID` (R111). -/
def execRdId (s : State) : Result := .next (s.ret idWord)

/-- `WR CTRL, d` (R112). -/
def execWrCtrl (d : Word) (s : State) : Result := .next (s.writeCtrl d)

/-- `RD STATUS` (R113). -/
def execRdStatus (s : State) : Result := .next (s.ret s.statusWord)

/-- `WR STATUS, d` (R114). -/
def execWrStatus (d : Word) (s : State) : Result := .next (s.acknowledge d)

/-- `RD CMD` (R129, R130): CMD stores nothing and reads 0. -/
def execRdCmd (s : State) : Result := .next (s.ret 0)

/-- `WR LEN, d` (R121). -/
def execWrLen (d : Word) (s : State) : Result := .next { s with len := d }

/-- `RD LEN` (R121). -/
def execRdLen (s : State) : Result := .next (s.ret s.len)

/-- `WR GEOM, d` (R122). -/
def execWrGeom (d : Word) (s : State) : Result := .next (s.writeGeom d)

/-- `RD GEOM` (R122). -/
def execRdGeom (s : State) : Result := .next (s.ret s.geomWord)

/-- `WR WIDTH, d` (R123): bits 31:17 are not stored. -/
def execWrWidth (d : Word) (s : State) : Result := .next { s with width := d.extractLsb' 0 17 }

/-- `RD WIDTH` (R123). -/
def execRdWidth (s : State) : Result := .next (s.ret (s.width.setWidth 32))

/-- `WR IRQ_EN, d` (R124). -/
def execWrIrqEn (d : Word) (s : State) : Result := .next (s.writeIrqEn d)

/-- `RD IRQ_EN` (R124). -/
def execRdIrqEn (s : State) : Result := .next (s.ret s.irqEnWord)

/-- `WR SLB_ADDR, d` (R125): bits 31:18 are not stored. -/
def execWrSlbAddr (d : Word) (s : State) : Result := .next { s with slbAddr := d.extractLsb' 0 18 }

/-- `RD SLB_ADDR` (R125). -/
def execRdSlbAddr (s : State) : Result := .next (s.ret (s.slbAddr.setWidth 32))

/-- `RD IN_COUNT` (R128). -/
def execRdInCount (s : State) : Result := .next (s.ret s.inCount)

/-- `RD OUT_COUNT` (R128). -/
def execRdOutCount (s : State) : Result := .next (s.ret s.outCount)

/-- `RD SLB_COUNT` (R128). -/
def execRdSlbCount (s : State) : Result := .next (s.ret s.slbCount)

/-- `RD IDX_COUNT` (R128). -/
def execRdIdxCount (s : State) : Result := .next (s.ret s.idxCount)

end Sys2Proof.Machine
end

