-- ==== Sys2Proof/Machine/Dispatch.lean ====
section
/-! DEFINITION. exec: the meaning of every operation, one arm per constructor of Instr. -/

namespace Sys2Proof.Machine

def exec (i : Instr) (s : State) : Host.Outcome State Fault Refusal :=
  match i with
  | .nop => Sys2Proof.Machine.execNop s
  | .decomp => Sys2Proof.Machine.execDecomp s
  | .comp => Sys2Proof.Machine.execComp s
  | .compP => Sys2Proof.Machine.execCompP s
  | .unpack => Sys2Proof.Machine.execUnpack s
  | .drow => Sys2Proof.Machine.execDrow s
  | .rdId => Sys2Proof.Machine.execRdId s
  | .wrCtrl d => Sys2Proof.Machine.execWrCtrl d s
  | .rdStatus => Sys2Proof.Machine.execRdStatus s
  | .wrStatus d => Sys2Proof.Machine.execWrStatus d s
  | .wrCmd d => Sys2Proof.Machine.execWrCmd d s
  | .rdCmd => Sys2Proof.Machine.execRdCmd s
  | .wrLen d => Sys2Proof.Machine.execWrLen d s
  | .rdLen => Sys2Proof.Machine.execRdLen s
  | .wrGeom d => Sys2Proof.Machine.execWrGeom d s
  | .rdGeom => Sys2Proof.Machine.execRdGeom s
  | .wrWidth d => Sys2Proof.Machine.execWrWidth d s
  | .rdWidth => Sys2Proof.Machine.execRdWidth s
  | .wrIrqEn d => Sys2Proof.Machine.execWrIrqEn d s
  | .rdIrqEn => Sys2Proof.Machine.execRdIrqEn s
  | .wrInData d => Sys2Proof.Machine.execWrInData d s
  | .wrInCtrl d => Sys2Proof.Machine.execWrInCtrl d s
  | .rdInCtrl => Sys2Proof.Machine.execRdInCtrl s
  | .rdOutData => Sys2Proof.Machine.execRdOutData s
  | .rdIdxData => Sys2Proof.Machine.execRdIdxData s
  | .rdLevels => Sys2Proof.Machine.execRdLevels s
  | .wrSlbAddr d => Sys2Proof.Machine.execWrSlbAddr d s
  | .rdSlbAddr => Sys2Proof.Machine.execRdSlbAddr s
  | .rdSlbData => Sys2Proof.Machine.execRdSlbData s
  | .wrSlbData d => Sys2Proof.Machine.execWrSlbData d s
  | .rdInCount => Sys2Proof.Machine.execRdInCount s
  | .rdOutCount => Sys2Proof.Machine.execRdOutCount s
  | .rdSlbCount => Sys2Proof.Machine.execRdSlbCount s
  | .rdIdxCount => Sys2Proof.Machine.execRdIdxCount s
  | .wrId d => Sys2Proof.Machine.execWrId d s
  | .rdCtrl => Sys2Proof.Machine.execRdCtrl s
  | .rdInData => Sys2Proof.Machine.execRdInData s
  | .wrOutData d => Sys2Proof.Machine.execWrOutData d s
  | .wrIdxData d => Sys2Proof.Machine.execWrIdxData d s
  | .wrLevels d => Sys2Proof.Machine.execWrLevels d s
  | .wrInCount d => Sys2Proof.Machine.execWrInCount d s
  | .wrOutCount d => Sys2Proof.Machine.execWrOutCount d s
  | .wrSlbCount d => Sys2Proof.Machine.execWrSlbCount d s
  | .wrIdxCount d => Sys2Proof.Machine.execWrIdxCount d s
  | .rdUnmapped4C => Sys2Proof.Machine.execRdUnmapped4C s
  | .wrUnmapped4C d => Sys2Proof.Machine.execWrUnmapped4C d s
  | .rdUnmapped50 => Sys2Proof.Machine.execRdUnmapped50 s
  | .wrUnmapped50 d => Sys2Proof.Machine.execWrUnmapped50 d s
  | .rdUnmapped54 => Sys2Proof.Machine.execRdUnmapped54 s
  | .wrUnmapped54 d => Sys2Proof.Machine.execWrUnmapped54 d s
  | .rdUnmapped58 => Sys2Proof.Machine.execRdUnmapped58 s
  | .wrUnmapped58 d => Sys2Proof.Machine.execWrUnmapped58 d s
  | .rdUnmapped5C => Sys2Proof.Machine.execRdUnmapped5C s
  | .wrUnmapped5C d => Sys2Proof.Machine.execWrUnmapped5C d s
  | .rdUnmapped60 => Sys2Proof.Machine.execRdUnmapped60 s
  | .wrUnmapped60 d => Sys2Proof.Machine.execWrUnmapped60 d s
  | .rdUnmapped64 => Sys2Proof.Machine.execRdUnmapped64 s
  | .wrUnmapped64 d => Sys2Proof.Machine.execWrUnmapped64 d s
  | .rdUnmapped68 => Sys2Proof.Machine.execRdUnmapped68 s
  | .wrUnmapped68 d => Sys2Proof.Machine.execWrUnmapped68 d s
  | .rdUnmapped6C => Sys2Proof.Machine.execRdUnmapped6C s
  | .wrUnmapped6C d => Sys2Proof.Machine.execWrUnmapped6C d s
  | .rdUnmapped70 => Sys2Proof.Machine.execRdUnmapped70 s
  | .wrUnmapped70 d => Sys2Proof.Machine.execWrUnmapped70 d s
  | .rdUnmapped74 => Sys2Proof.Machine.execRdUnmapped74 s
  | .wrUnmapped74 d => Sys2Proof.Machine.execWrUnmapped74 d s
  | .rdUnmapped78 => Sys2Proof.Machine.execRdUnmapped78 s
  | .wrUnmapped78 d => Sys2Proof.Machine.execWrUnmapped78 d s
  | .rdUnmapped7C => Sys2Proof.Machine.execRdUnmapped7C s
  | .wrUnmapped7C d => Sys2Proof.Machine.execWrUnmapped7C d s
  | .rdUnmapped80 => Sys2Proof.Machine.execRdUnmapped80 s
  | .wrUnmapped80 d => Sys2Proof.Machine.execWrUnmapped80 d s
  | .rdUnmapped84 => Sys2Proof.Machine.execRdUnmapped84 s
  | .wrUnmapped84 d => Sys2Proof.Machine.execWrUnmapped84 d s
  | .rdUnmapped88 => Sys2Proof.Machine.execRdUnmapped88 s
  | .wrUnmapped88 d => Sys2Proof.Machine.execWrUnmapped88 d s
  | .rdUnmapped8C => Sys2Proof.Machine.execRdUnmapped8C s
  | .wrUnmapped8C d => Sys2Proof.Machine.execWrUnmapped8C d s
  | .rdUnmapped90 => Sys2Proof.Machine.execRdUnmapped90 s
  | .wrUnmapped90 d => Sys2Proof.Machine.execWrUnmapped90 d s
  | .rdUnmapped94 => Sys2Proof.Machine.execRdUnmapped94 s
  | .wrUnmapped94 d => Sys2Proof.Machine.execWrUnmapped94 d s
  | .rdUnmapped98 => Sys2Proof.Machine.execRdUnmapped98 s
  | .wrUnmapped98 d => Sys2Proof.Machine.execWrUnmapped98 d s
  | .rdUnmapped9C => Sys2Proof.Machine.execRdUnmapped9C s
  | .wrUnmapped9C d => Sys2Proof.Machine.execWrUnmapped9C d s
  | .rdUnmappedA0 => Sys2Proof.Machine.execRdUnmappedA0 s
  | .wrUnmappedA0 d => Sys2Proof.Machine.execWrUnmappedA0 d s
  | .rdUnmappedA4 => Sys2Proof.Machine.execRdUnmappedA4 s
  | .wrUnmappedA4 d => Sys2Proof.Machine.execWrUnmappedA4 d s
  | .rdUnmappedA8 => Sys2Proof.Machine.execRdUnmappedA8 s
  | .wrUnmappedA8 d => Sys2Proof.Machine.execWrUnmappedA8 d s
  | .rdUnmappedAC => Sys2Proof.Machine.execRdUnmappedAC s
  | .wrUnmappedAC d => Sys2Proof.Machine.execWrUnmappedAC d s
  | .rdUnmappedB0 => Sys2Proof.Machine.execRdUnmappedB0 s
  | .wrUnmappedB0 d => Sys2Proof.Machine.execWrUnmappedB0 d s
  | .rdUnmappedB4 => Sys2Proof.Machine.execRdUnmappedB4 s
  | .wrUnmappedB4 d => Sys2Proof.Machine.execWrUnmappedB4 d s
  | .rdUnmappedB8 => Sys2Proof.Machine.execRdUnmappedB8 s
  | .wrUnmappedB8 d => Sys2Proof.Machine.execWrUnmappedB8 d s
  | .rdUnmappedBC => Sys2Proof.Machine.execRdUnmappedBC s
  | .wrUnmappedBC d => Sys2Proof.Machine.execWrUnmappedBC d s
  | .rdUnmappedC0 => Sys2Proof.Machine.execRdUnmappedC0 s
  | .wrUnmappedC0 d => Sys2Proof.Machine.execWrUnmappedC0 d s
  | .rdUnmappedC4 => Sys2Proof.Machine.execRdUnmappedC4 s
  | .wrUnmappedC4 d => Sys2Proof.Machine.execWrUnmappedC4 d s
  | .rdUnmappedC8 => Sys2Proof.Machine.execRdUnmappedC8 s
  | .wrUnmappedC8 d => Sys2Proof.Machine.execWrUnmappedC8 d s
  | .rdUnmappedCC => Sys2Proof.Machine.execRdUnmappedCC s
  | .wrUnmappedCC d => Sys2Proof.Machine.execWrUnmappedCC d s
  | .rdUnmappedD0 => Sys2Proof.Machine.execRdUnmappedD0 s
  | .wrUnmappedD0 d => Sys2Proof.Machine.execWrUnmappedD0 d s
  | .rdUnmappedD4 => Sys2Proof.Machine.execRdUnmappedD4 s
  | .wrUnmappedD4 d => Sys2Proof.Machine.execWrUnmappedD4 d s
  | .rdUnmappedD8 => Sys2Proof.Machine.execRdUnmappedD8 s
  | .wrUnmappedD8 d => Sys2Proof.Machine.execWrUnmappedD8 d s
  | .rdUnmappedDC => Sys2Proof.Machine.execRdUnmappedDC s
  | .wrUnmappedDC d => Sys2Proof.Machine.execWrUnmappedDC d s
  | .rdUnmappedE0 => Sys2Proof.Machine.execRdUnmappedE0 s
  | .wrUnmappedE0 d => Sys2Proof.Machine.execWrUnmappedE0 d s
  | .rdUnmappedE4 => Sys2Proof.Machine.execRdUnmappedE4 s
  | .wrUnmappedE4 d => Sys2Proof.Machine.execWrUnmappedE4 d s
  | .rdUnmappedE8 => Sys2Proof.Machine.execRdUnmappedE8 s
  | .wrUnmappedE8 d => Sys2Proof.Machine.execWrUnmappedE8 d s
  | .rdUnmappedEC => Sys2Proof.Machine.execRdUnmappedEC s
  | .wrUnmappedEC d => Sys2Proof.Machine.execWrUnmappedEC d s
  | .rdUnmappedF0 => Sys2Proof.Machine.execRdUnmappedF0 s
  | .wrUnmappedF0 d => Sys2Proof.Machine.execWrUnmappedF0 d s
  | .rdUnmappedF4 => Sys2Proof.Machine.execRdUnmappedF4 s
  | .wrUnmappedF4 d => Sys2Proof.Machine.execWrUnmappedF4 d s
  | .rdUnmappedF8 => Sys2Proof.Machine.execRdUnmappedF8 s
  | .wrUnmappedF8 d => Sys2Proof.Machine.execWrUnmappedF8 d s
  | .rdUnmappedFC => Sys2Proof.Machine.execRdUnmappedFC s
  | .wrUnmappedFC d => Sys2Proof.Machine.execWrUnmappedFC d s

end Sys2Proof.Machine
end

