-- ==== Sys2Proof/Machine/Schedule.lean ====
section
/-! DEFINITION. What happens next (20_memory.md R80, 44_row_and_control.md R235, 70_reset_and_hazards.md R280): the
head of the list of events is a host access, a turn of the engine or a hardware reset; with the list empty the
engine goes on alone, which is R82's fairness (log entry 4). -/

namespace Sys2Proof.Machine

/-- What one step does: perform an operation the host asks for in a state, or something already settled. -/
inductive Turn where
  /-- the host's access decodes to operation `i`, to be performed in state `s` -/
  | perform (i : Instr) (s : State)
  /-- the step is not a host operation: its result is `r` -/
  | settled (r : Result)

/-- The state whose event list is `es`. -/
def State.withEvents (s : State) (es : List Event) : State := { s with events := es }

/-- The host access that stands at the head of the events, decoded, or its refusal (R71, U1). -/
def State.hostTurn (s : State) (a : BusAccess) : Turn :=
  match decode s.params.baseAddr a with
  | .ok i => .perform i s
  | .error why => .settled (.refused (.badAccess why))

/-- The next turn: the head of the events is taken off the list and performed. -/
def State.turn (s : State) : Turn :=
  match s.events with
  | [] => .settled s.engineTurn
  | .engine :: es => .settled (s.withEvents es).engineTurn
  | .hardReset :: es => .settled (.next (s.withEvents es).resetBlock)
  | .host a :: es => (s.withEvents es).hostTurn a

end Sys2Proof.Machine
end

