-- ==== Sys2Proof/Machine/Step.lean ====
section
/-! DEFINITION. The step function, and placing an operation as the next thing the host does. -/

namespace Sys2Proof.Machine

/-- One step of the block: the next turn of the schedule, an operation of the host being performed by `exec`. -/
def step (s : State) : Host.Outcome State Fault Refusal :=
  match s.turn with
  | .perform i t => exec i t
  | .settled r => r

/-- The state in which the next thing that happens is the host access of a table row's bits (log entries 4 and 6).
Nothing else changes; a width the table does not use places nothing. -/
def State.withFetchWord (s : State) (nbits w : Nat) : State :=
  match tableAccess s.params.baseAddr nbits w with
  | some a => s.withEvents (.host a :: s.events)
  | none => s

end Sys2Proof.Machine
end

