-- ==== Sys2Proof/Machine/Reference.lean ====
section
/-! DEFINITION. The reference functions of the spec, which give a command's result as a function of the bytes it
pops: rle_decode (41_rle_decompress.md R142), rle_encode and its segmentation (42_rle_compress.md R171, R172), what a
truncated compression leaves (R176), and the row of indices of an UNPACK (43_unpack.md R211). -/

namespace Sys2Proof.Machine

/-! ## Decompression -/

/-- What `rle_decode(S, N)` returns (R142): the bytes decoded, how many bytes of S were taken, and the status
(`none` is OK). -/
structure Decoded where
  out : List Byte
  taken : Nat
  status : ErrorCode
deriving DecidableEq, Repr

/-- The result of a decoding that has first decoded `bs` from `k` bytes and then gone on to `r`. -/
def Decoded.after (bs : List Byte) (k : Nat) (r : Decoded) : Decoded :=
  { out := bs ++ r.out, taken := k + r.taken, status := r.status }

/-- `rle_decode(S, N)` (R142), `N` being the bytes still wanted. -/
def rleDecode : List Byte → Nat → Decoded
  | [], n => { out := [], taken := 0, status := if n = 0 then .none else .streamTruncated }
  | b :: rest, n =>
    if n = 0 then { out := [], taken := 0, status := .none }
    else if isRunCount b then
      match rest with
      | [] => { out := [], taken := 1, status := .streamTruncated }
      | v :: rest' =>
        if n < (runCount b).toNat then { out := List.replicate n v, taken := 2, status := .runOverrun }
        else (rleDecode rest' (n - (runCount b).toNat)).after (List.replicate (runCount b).toNat v) 2
    else (rleDecode rest (n - 1)).after [b] 1

/-! ## Compression -/

/-- The runs of `T` that follow a run of `n` bytes of value `v`, which they may still extend, up to 63 (R171, R172). -/
def runsFrom (v : Byte) (n : Nat) : List Byte → List (Byte × Nat)
  | [] => [(v, n)]
  | b :: t => if b = v ∧ n < 63 then runsFrom v (n + 1) t else (v, n) :: runsFrom b 1 t

/-- The segmentation of T into runs, from the left, each as long as possible but at most 63 (R172). -/
def runsOf : List Byte → List (Byte × Nat)
  | [] => []
  | b :: t => runsFrom b 1 t

/-- The units of a sequence of runs (R101). -/
def unitsOf (rs : List (Byte × Nat)) : List Byte := rs.flatMap fun r => unit r.1 r.2

/-- `rle_encode(T)` (R171). -/
def rleEncode (t : List Byte) : List Byte := unitsOf (runsOf t)

/-- T of R171: the first `len` bytes of S, and one zero byte when the pad flag is set and `len` is odd (R174). -/
def compInput (s : List Byte) (len : Nat) (pad : Bool) : List Byte :=
  s.take len ++ if pad = true ∧ len % 2 = 1 then [0x00] else []

/-- The runs whose units a compression has emitted when its input ends after the bytes cut into `rs`: all but the
last, and the last too if and only if its length is 63 (R176). -/
def emittedRuns : List (Byte × Nat) → List (Byte × Nat)
  | [] => []
  | [r] => if r.2 = 63 then [r] else []
  | r :: r' :: rs => r :: emittedRuns (r' :: rs)

/-! ## Index extraction -/

/-- The row of indices of R211 over the bytes `byteAt` of an SLB. -/
def indexRow (byteAt : Nat → Byte) (mode : UnpackMode) (bps planes bpl width : Nat) : List Byte :=
  (List.range width).map (indexOf byteAt mode bps planes bpl)

end Sys2Proof.Machine
end

