-- ==== Sys2Proof/Safety.lean ====
section
/-! DEFINITION. What the rules of spec/ promise of every state of a run: the invariant that reset has and every step
keeps, in the parts its rules give, and the terms the statements about runs use. -/

namespace Sys2Proof.Machine

/-- The parameters meet the constraints of R6. -/
abbrev State.ParamsOk (s : State) : Prop := s.params.valid = true

/-- No FIFO holds more than its capacity (R41 to R43). -/
abbrev State.FifosFit (s : State) : Prop :=
  s.inFifo.length ≤ s.params.inDepth ∧ s.outFifo.length ≤ s.params.outDepth
    ∧ s.idxFifo.length ≤ s.params.idxDepth

/-- The SLB is in canonical form and lies in `SLB[0 .. SLB_BYTES-1]` (R40). -/
abbrev State.SlbOk (s : State) : Prop := s.slb.wf ∧ ∀ c ∈ s.slb, c.1 < s.params.slbBytes

/-- ERRCODE is 0 exactly when ERR is 0; DONE and ERR are never both 1; both are 0 while a command runs
(R28, R232). -/
abbrev State.FlagsOk (s : State) : Prop :=
  (s.err = false ↔ s.errcode = .none) ∧ (s.done = true → s.err = false)
    ∧ (s.phase ≠ .idle → s.done = false ∧ s.err = false)

/-- Neither SLB_COUNT nor IDX_COUNT can wrap (R39). -/
abbrev State.CountersOk (s : State) : Prop :=
  s.slbCount.toNat ≤ s.params.slbBytes ∧ s.idxCount.toNat < 2 ^ 17

/-- The decompressor's run state is 0 outside DEC and the compressor's outside CMP (R48, R49, R284). -/
abbrev State.RunStateOk (s : State) : Prop :=
  (s.phase ≠ .dec → s.dWait = false ∧ s.dCnt = 0)
    ∧ (s.phase ≠ .cmp → s.cHave = false ∧ s.cVal = 0 ∧ s.cCnt = 0 ∧ s.cPadDone = false)

/-- A decompression: SLB_COUNT ≤ L_N ≤ SLB_BYTES (R141), and a DROW has passed its checks (R242, R209). -/
abbrev State.DecOk (s : State) : Prop :=
  s.phase = .dec →
    (s.op = .decomp ∨ s.op = .drow) ∧ s.slbCount.toNat ≤ s.lN.toNat ∧ s.lN.toNat ≤ s.params.slbBytes
      ∧ s.idxCount = 0
      ∧ (s.op = .drow → s.geometryError = none ∧ s.lN.toNat = s.lBpl.toNat * s.lPlanes.toNat)

/-- A compression: IN_COUNT ≤ L_LEN, a pending run has length 1 to 62 (a run of 63 is emitted at once, R175), and the
pad byte is taken only where it is due, after the input (R49, R174). -/
abbrev State.CmpOk (s : State) : Prop :=
  s.phase = .cmp →
    s.op = .comp ∧ s.inCount.toNat ≤ s.lLen.toNat
      ∧ (s.cHave = true → 1 ≤ s.cCnt.toNat ∧ s.cCnt.toNat ≤ 62)
      ∧ (s.cPadDone = true → s.needPad = true ∧ s.inCount = s.lLen)

/-- An index extraction: the command has passed its checks, and IDX_COUNT ≤ L_WIDTH (R209, R210, R256). -/
abbrev State.UnpOk (s : State) : Prop :=
  s.phase = .unp →
    (s.op = .unpack ∨ s.op = .drow) ∧ s.geometryError = none ∧ s.idxCount.toNat ≤ s.lWidth.toNat

/-- The invariant of every run. -/
structure State.Inv (s : State) : Prop where
  params : s.ParamsOk
  fifos : s.FifosFit
  slb : s.SlbOk
  flags : s.FlagsOk
  counters : s.CountersOk
  runState : s.RunStateOk
  dec : s.DecOk
  cmp : s.CmpOk
  unp : s.UnpOk

/-! ## Terms of the statements -/

/-- The error code of the four checks of UNPACK and DROW, written from R203, R204, R201, R202 in the order of R256:
`none` where all pass. -/
def geometryCode (bps planes bpl width slbBytes : Nat) : Option ErrorCode :=
  if bps = 0 ∨ 8 < bps then some .unsupportedBitDepth
  else if bpl * planes < (width * bps * planes + 7) / 8 then some .corruptDimensions
  else if (planes, bps) ∉ [(1, 8), (1, 1), (1, 2), (1, 4), (2, 1), (3, 1), (4, 1)] then some .unsupportedVariant
  else if slbBytes < bpl * planes then some .lenRange
  else none

/-- The state just after a start's clears (R232), with `op` set (R231): written out field by field. -/
def State.started (s : State) (op : Op) : State :=
  { s with
    op := op
    done := false, err := false, errcode := .none
    inCount := 0, outCount := 0, slbCount := 0, idxCount := 0
    dWait := false, dCnt := 0, cHave := false, cVal := 0, cCnt := 0, cPadDone := false }

/-- A start whose checks gave `code`: it enters `phase`, or ends with the error recorded (R255). -/
def State.startEnds (s : State) (phase : Phase) : Option ErrorCode → State
  | none => { s with phase := phase }
  | some code => { s with phase := .idle, err := true, errcode := code }

/-- The operations of one that feeds a running command and watches it: pushes, EOS_SET without FLUSH, and reads of
STATUS, IN_CTRL, IN_COUNT and SLB_COUNT. -/
def feedsStream : Instr → Bool
  | .wrInData _ | .rdStatus | .rdInCtrl | .rdInCount | .rdSlbCount => true
  | .wrInCtrl d => !d.getLsbD 1
  | _ => false

/-- An event of such a host, or a turn of the engine. -/
def streamEvent (base : Nat) : Event → Bool
  | .engine => true
  | .hardReset => false
  | .host a =>
    match decode base a with
    | .ok i => feedsStream i
    | .error _ => false

/-- The byte a host access offers to the input FIFO, if it is a push (R115). -/
def offeredByte (base : Nat) : Event → List Byte
  | .host a =>
    match decode base a with
    | .ok (.wrInData d) => [d.extractLsb' 0 8]
    | _ => []
  | _ => []

/-- What is still to be encoded by a running compression when its input FIFO and then `more` feed it (R171, R174). -/
def State.inputToCome (s : State) (more : List Byte) : List Byte :=
  (s.inFifo ++ more).take (s.lLen.toNat - s.inCount.toNat)
    ++ if s.needPad = true ∧ s.cPadDone = false then [0x00] else []

/-- The bytes a running compression has still to emit (R171): the units of the pending run extended by the input. -/
def State.bytesToCome (s : State) (more : List Byte) : List Byte :=
  unitsOf (if s.cHave then runsFrom s.cVal s.cCnt.toNat (s.inputToCome more) else runsOf (s.inputToCome more))

/-- The host access at the head of the events is the operation `i`. -/
def State.nextIs (s : State) (i : Instr) : Prop :=
  ∃ a es, s.events = .host a :: es ∧ decode s.params.baseAddr a = .ok i

/-- The next event is a reset: the reset input, or a write to CTRL with SRST (R280, R281). -/
def State.nextResets (s : State) : Prop :=
  (∃ es, s.events = .hardReset :: es) ∨ ∃ d : Word, d.getLsbD 0 = true ∧ s.nextIs (.wrCtrl d)

end Sys2Proof.Machine
end

