-- ==== Sys2Proof/Certificates/Slice0/Obligations.lean ====
section
/-! DEFINITION. The statements for the provers. In all of them the word a host read returns is `rdata`, and the
events still to come are `events` (the model's own fields, log entries 5 and 4). Where a premise is `Inv`, it only
rules out states no run reaches: StepKeepsInvariant and ResetMeetsInvariant say that every run meets it. -/

open Sys2Proof Sys2Proof.Machine

/-! ## Decoding, encoding, the step -/

/-- A few transactions, written out from R22, R72, R74, R91 and R102, decode to what they stand for, and three outside
R71's contract are rejected (tier 1 sanity). The names of the rejections are the model's own choice (log entry 8). -/
def Obligations.SomeTransactionsDecode : Prop :=
  decode 0x100 (.write 0x10C [0x01, 0x00, 0x00, 0x00]) = .ok .decomp
    ∧ decode 0x100 (.write 0x10C [0x12, 0x00, 0x00, 0x00]) = .ok .compP
    ∧ decode 0x100 (.read 0x108 4) = .ok .rdStatus
    ∧ decode 0x100 (.write 0x120 [0xC3, 0x01, 0x00, 0x00]) = .ok (.wrInData 0x1C3)
    ∧ decode 0x100 (.write 0x114 [0x41, 0x00, 0x28, 0x00]) = .ok (.wrGeom 0x00280041)
    ∧ decode 0x100 (.read 0x1FC 4) = .ok .rdUnmappedFC
    ∧ decode 0x100 (.read 0x108 2) = .error .accessWidth
    ∧ decode 0x100 (.read 0x109 4) = .error .misaligned
    ∧ decode 0x100 (.read 0x200 4) = .error .outsideAperture

/-- Decoding the transaction of a well-formed operation gives the operation back, at every base address. -/
def Obligations.DecodeOfEncode : Prop :=
  ∀ (base : Nat) (i : Instr), i.wf = true → decode base (encode base i) = .ok i

/-- A transaction that decodes is the transaction of the operation it decodes to, which is well formed: no bit of a
transaction is dropped. -/
def Obligations.EncodeOfDecode : Prop :=
  ∀ (base : Nat) (a : BusAccess) (i : Instr), decode base a = .ok i → encode base i = a ∧ i.wf = true

/-- A transaction decodes exactly when it is inside the interface contract of R71. -/
def Obligations.DecodesExactlyInContract : Prop :=
  ∀ (base : Nat) (a : BusAccess), (∃ i, decode base a = .ok i) ↔ a.inContract base = true

/-- R97: exactly the six words are legal, every other word is decoded as `wrCmd`, and each command is the write of its
word to CMD (R103), in every state. -/
def Obligations.SixLegalCommandWords : Prop :=
  ∀ d : Word,
    (illegalCmd d = false ↔
        d = 0x00000000 ∨ d = 0x00000001 ∨ d = 0x00000002 ∨ d = 0x00000012 ∨ d = 0x00000003 ∨ d = 0x00000004)
      ∧ (illegalCmd d = true ↔ decodeCmd d = .wrCmd d)
      ∧ ∀ s : State, exec (decodeCmd d) s = exec (.wrCmd d) s

/-- A host access at the head of the events that decodes to `i` is performed as `exec i`, in the state that only
has lost that event (the event list is the model's form of the interleaving, log entry 4). -/
def Obligations.StepPerformsDecodedAccess : Prop :=
  ∀ (s : State) (a : BusAccess) (es : List Event) (i : Instr),
    s.events = .host a :: es → decode s.params.baseAddr a = .ok i →
      step s = exec i { s with events := es }

/-- A step refuses exactly when the host's next access is outside the contract of R71. -/
def Obligations.StepRefusesExactlyOutsideContract : Prop :=
  ∀ s : State,
    (∃ r, step s = .refused r) ↔ ∃ a es, s.events = .host a :: es ∧ a.inContract s.params.baseAddr = false

/-- A turn of the engine at the head of any schedule does what the engine does alone, the rest of the schedule kept
(R79, R80): so each statement below about a step with `s.events = []` is one about every interleaving. In phase IDLE it
does nothing (R235). The event list is the model's form of the interleaving (log entries 4 and 10). -/
def Obligations.EngineTurnsInAnySchedule : Prop :=
  ∀ (s : State) (es : List Event),
    ((∃ t, step { s with events := [] } = .next t ∧ t.events = []
        ∧ step { s with events := .engine :: es } = .next { t with events := es })
      ∨ ∃ f, step { s with events := [] } = .fault f ∧ step { s with events := .engine :: es } = .fault f)
    ∧ (s.phase = .idle →
        step { s with events := [] } = .next { s with events := [] }
          ∧ step { s with events := .engine :: es } = .next { s with events := es })

/-! ## Reset -/

/-- R52 at power-up, for every choice of the parameters: the values the spec states; the unspecified ones are not
mentioned. `State.reset` is that state at the default parameters of R6; its BASE_ADDR is the model's choice (log
entry 2). -/
def Obligations.ResetValues : Prop :=
  State.reset = State.powerUp Params.default
    ∧ ∀ p : Params,
      (State.powerUp p).params = p
        ∧ (∃ s, exec .rdId (State.powerUp p) = .next s ∧ s.rdata = 0x524C4501)
        ∧ (State.powerUp p).statusWord = 0 ∧ (State.powerUp p).irq = false
        ∧ (State.powerUp p).len = 0 ∧ (State.powerUp p).geomWord = 0 ∧ (State.powerUp p).width = 0
        ∧ (State.powerUp p).irqEnWord = 0 ∧ (State.powerUp p).slbAddr = 0
        ∧ (State.powerUp p).inCount = 0 ∧ (State.powerUp p).outCount = 0
        ∧ (State.powerUp p).slbCount = 0 ∧ (State.powerUp p).idxCount = 0
        ∧ (State.powerUp p).inFifo = [] ∧ (State.powerUp p).outFifo = [] ∧ (State.powerUp p).idxFifo = []
        ∧ (State.powerUp p).eos = false ∧ (State.powerUp p).phase = .idle
        ∧ (State.powerUp p).dWait = false ∧ (State.powerUp p).dCnt = 0
        ∧ (State.powerUp p).cHave = false ∧ (State.powerUp p).cVal = 0 ∧ (State.powerUp p).cCnt = 0
        ∧ (State.powerUp p).cPadDone = false

/-- A write to CTRL (R112): with bit 0 set, the values of R52 from every state, the SLB and the parameters unchanged
(R281); with bit 0 clear, nothing. -/
def Obligations.CtrlWriteResets : Prop :=
  ∀ (s : State) (d : Word), ∃ t, exec (.wrCtrl d) s = .next t
    ∧ (d.getLsbD 0 = false → t = s)
    ∧ (d.getLsbD 0 = true →
        t.statusWord = 0 ∧ t.irq = false ∧ t.done = false ∧ t.err = false ∧ t.errcode = .none ∧ t.herr = false
          ∧ t.len = 0 ∧ t.geomWord = 0 ∧ t.width = 0 ∧ t.irqEnWord = 0 ∧ t.slbAddr = 0
          ∧ t.inCount = 0 ∧ t.outCount = 0 ∧ t.slbCount = 0 ∧ t.idxCount = 0
          ∧ t.inFifo = [] ∧ t.outFifo = [] ∧ t.idxFifo = [] ∧ t.eos = false ∧ t.phase = .idle
          ∧ t.dWait = false ∧ t.dCnt = 0 ∧ t.cHave = false ∧ t.cVal = 0 ∧ t.cCnt = 0 ∧ t.cPadDone = false
          ∧ t.params = s.params ∧ t.slb = s.slb ∧ ∀ a, t.slbByte a = s.slbByte a)

/-- The reset input does to the state what a soft reset does (R280, R281). That it does so to op and the latched
operands too, which both keep, is the model's choice (U2, log entry 3). -/
def Obligations.HardResetEqualsSoftReset : Prop :=
  ∀ (s : State) (es : List Event) (d : Word), s.events = .hardReset :: es → d.getLsbD 0 = true →
    step s = exec (.wrCtrl d) { s with events := es }

/-! ## Host operations: registers -/

/-- A read of STATUS returns the word of R113 and R25 field by field, IRQ being the level of R265, and changes
nothing. -/
def Obligations.StatusReadGivesItsFields : Prop :=
  ∀ s : State, ∃ w : Word, exec .rdStatus s = .next { s with rdata := w }
    ∧ w.getLsbD 0 = decide (s.phase ≠ .idle)
    ∧ w.getLsbD 1 = s.done ∧ w.getLsbD 2 = s.err ∧ w.getLsbD 3 = s.herr
    ∧ w.getLsbD 4 = s.inWait ∧ w.getLsbD 5 = s.outWait
    ∧ w.getLsbD 6 = ((s.done && s.doneIe) || (s.err && s.errIe) || (s.herr && s.herrIe))
    ∧ w.getLsbD 7 = false
    ∧ (w.extractLsb' 8 4).toNat =
        (match s.errcode with
          | .none => 0 | .streamTruncated => 1 | .runOverrun => 2 | .unsupportedBitDepth => 3
          | .corruptDimensions => 4 | .unsupportedVariant => 5 | .lenRange => 6 | .illegalCmd => 7)
    ∧ w.extractLsb' 12 4 = 0
    ∧ (w.extractLsb' 16 3).toNat = (match s.phase with | .idle => 0 | .dec => 1 | .cmp => 2 | .unp => 3)
    ∧ w.extractLsb' 19 13 = 0

/-- When IN_WAIT and OUT_WAIT are 1 (R30), from the table of R290; they are never both 1. -/
def Obligations.WaitFlagsAreTheHolds : Prop :=
  ∀ s : State, s.Inv →
    (s.inWait = true ↔
        s.inFifo = [] ∧ s.eos = false
          ∧ (s.phase = .dec ∧ s.slbCount.toNat < s.lN.toNat ∨ s.phase = .cmp ∧ s.inCount.toNat < s.lLen.toNat))
      ∧ (s.outWait = true ↔
          (s.phase = .cmp ∧ s.params.outDepth < s.outFifo.length + 2
              ∧ ((s.inCount.toNat < s.lLen.toNat ∧ s.inFifo ≠ [])
                  ∨ (s.inCount = s.lLen ∧ s.needPad = true ∧ s.cPadDone = false)
                  ∨ (s.inCount = s.lLen ∧ (s.needPad = false ∨ s.cPadDone = true) ∧ s.cHave = true)))
            ∨ (s.phase = .unp ∧ s.idxCount.toNat < s.lWidth.toNat ∧ s.idxFifo.length = s.params.idxDepth))
      ∧ ¬(s.inWait = true ∧ s.outWait = true)

/-- A write of `d` to STATUS clears DONE, ERR with ERRCODE, and HERR by bits 1, 2 and 3, and nothing else (R114). -/
def Obligations.StatusWriteClears : Prop :=
  ∀ (s : State) (d : Word),
    exec (.wrStatus d) s = .next
      { s with
        done := if d.getLsbD 1 then false else s.done
        err := if d.getLsbD 2 then false else s.err
        errcode := if d.getLsbD 2 then .none else s.errcode
        herr := if d.getLsbD 3 then false else s.herr }

/-- ID reads 0x524C4501 in every state and a write of it changes nothing (R23, R111); the four counters are read as
they stand (R128). -/
def Obligations.IdAndCountersRead : Prop :=
  ∀ (s : State) (d : Word),
    exec .rdId s = .next { s with rdata := 0x524C4501 } ∧ exec (.wrId d) s = .next s
      ∧ exec .rdInCount s = .next { s with rdata := s.inCount }
      ∧ exec .rdOutCount s = .next { s with rdata := s.outCount }
      ∧ exec .rdSlbCount s = .next { s with rdata := s.slbCount }
      ∧ exec .rdIdxCount s = .next { s with rdata := s.idxCount }

/-- LEN stores every word (R121), WIDTH stores `d & 0x0001FFFF` (R34, R123) and SLB_ADDR stores `d[17:0]` (R125); each
reads back what it stores, and a write of one changes nothing else. -/
def Obligations.LenWidthSlbAddrReadBack : Prop :=
  ∀ (s : State) (d : Word),
    (exec (.wrLen d) s = .next { s with len := d } ∧ exec .rdLen s = .next { s with rdata := s.len })
      ∧ (∃ t, exec (.wrWidth d) s = .next t ∧ t = { s with width := t.width }
          ∧ exec .rdWidth t = .next { t with rdata := d &&& 0x0001FFFF })
      ∧ ∃ t, exec (.wrSlbAddr d) s = .next t ∧ t = { s with slbAddr := t.slbAddr }
          ∧ exec .rdSlbAddr t = .next { t with rdata := d &&& 0x0003FFFF }

/-- GEOM stores `d & 0xFFFF00FF` in its three fields and reads it back (R33, R122). -/
def Obligations.GeomReadsBack : Prop :=
  ∀ (s : State) (d : Word), ∃ t, exec (.wrGeom d) s = .next t
    ∧ t = { s with bps := t.bps, planes := t.planes, bpl := t.bpl }
    ∧ t.bps.toNat = d.toNat % 16 ∧ t.planes.toNat = d.toNat / 16 % 16 ∧ t.bpl.toNat = d.toNat / 65536
    ∧ exec .rdGeom t = .next { t with rdata := d &&& 0xFFFF00FF }

/-- IRQ_EN stores `d & 0x0000000E` and reads it back (R35, R124), and the IRQ level follows at once (R265). -/
def Obligations.IrqEnReadsBack : Prop :=
  ∀ (s : State) (d : Word), ∃ t, exec (.wrIrqEn d) s = .next t
    ∧ t = { s with doneIe := t.doneIe, errIe := t.errIe, herrIe := t.herrIe }
    ∧ exec .rdIrqEn t = .next { t with rdata := d &&& 0x0000000E }
    ∧ t.irq = ((s.done && d.getLsbD 1) || (s.err && d.getLsbD 2) || (s.herr && d.getLsbD 3))

/-- Accesses against a register's direction (R130): reads of CTRL, CMD and IN_DATA return 0, writes to the read-only
registers change nothing; none sets HERR. -/
def Obligations.AgainstDirectionNothingHappens : Prop :=
  ∀ (s : State) (d : Word),
    (∀ i ∈ [Instr.rdCtrl, Instr.rdCmd, Instr.rdInData], exec i s = .next { s with rdata := 0 })
      ∧ ∀ i ∈ [Instr.wrId d, Instr.wrLevels d, Instr.wrOutData d, Instr.wrIdxData d, Instr.wrInCount d,
            Instr.wrOutCount d, Instr.wrSlbCount d, Instr.wrIdxCount d],
          exec i s = .next s

/-- Unmapped offsets (R72): each of the 45 reads returns 0, each of the 45 writes changes nothing, none sets HERR;
these operations are exactly the aligned accesses at offsets 0x4C to 0xFC. -/
def Obligations.UnmappedOffsetsAreQuiet : Prop :=
  ∀ (s : State) (d : Word),
    (∀ i ∈ Instr.unmappedReads, exec i s = .next { s with rdata := 0 })
      ∧ (∀ i ∈ Instr.unmappedWrites d, exec i s = .next s)
      ∧ ∀ off, 0x4C ≤ off → off < 256 → off % 4 = 0 →
          (∃ i ∈ Instr.unmappedReads, decodeRead off = some i)
            ∧ ∃ i ∈ Instr.unmappedWrites d, decodeWrite off d = some i

/-! ## Host operations: FIFOs and the SLB window -/

/-- A push (R115). -/
def Obligations.PushAppendsOrSetsHerr : Prop :=
  ∀ (s : State) (d : Word),
    (s.eos = true ∨ s.inFifo.length = s.params.inDepth → exec (.wrInData d) s = .next { s with herr := true })
      ∧ (s.eos = false ∧ s.inFifo.length ≠ s.params.inDepth →
          exec (.wrInData d) s = .next { s with inFifo := s.inFifo ++ [BitVec.ofNat 8 (d.toNat % 256)] })

/-- IN_CTRL and LEVELS read the FIFO levels and EOS (R116, R118). -/
def Obligations.LevelsRead : Prop :=
  ∀ s : State, s.Inv →
    (∃ w : Word, exec .rdInCtrl s = .next { s with rdata := w }
        ∧ w.toNat = s.inFifo.length * 65536 + (if s.eos then 1 else 0))
      ∧ ∃ w : Word, exec .rdLevels s = .next { s with rdata := w }
        ∧ w.toNat = s.idxFifo.length * 65536 + s.outFifo.length

/-- A write to IN_CTRL (R117): FLUSH first, refused with HERR while BUSY, then EOS_SET. -/
def Obligations.InCtrlWriteFlushesThenSetsEos : Prop :=
  ∀ (s : State) (d : Word), ∃ t, exec (.wrInCtrl d) s = .next t
    ∧ (d.getLsbD 1 = true → s.phase = .idle → t = { s with inFifo := [], eos := d.getLsbD 0 })
    ∧ (d.getLsbD 1 = true → s.phase ≠ .idle → t = { s with herr := true, eos := s.eos || d.getLsbD 0 })
    ∧ (d.getLsbD 1 = false → t = { s with eos := s.eos || d.getLsbD 0 })

/-- Pops of the output and index FIFOs (R119, R120): `0x100 | value`, or 0 without effect when empty. -/
def Obligations.PopsTakeTheOldest : Prop :=
  ∀ s : State,
    (s.outFifo = [] → exec .rdOutData s = .next { s with rdata := 0 })
      ∧ (∀ b rest, s.outFifo = b :: rest →
          exec .rdOutData s = .next { s with outFifo := rest, rdata := 0x100 ||| b.setWidth 32 })
      ∧ (s.idxFifo = [] → exec .rdIdxData s = .next { s with rdata := 0 })
      ∧ ∀ b rest, s.idxFifo = b :: rest →
          exec .rdIdxData s = .next { s with idxFifo := rest, rdata := 0x100 ||| b.setWidth 32 }

/-- A read through the SLB window (R75, R126), in its three cases. -/
def Obligations.SlbWindowRead : Prop :=
  ∀ s : State,
    (s.phase ≠ .idle → exec .rdSlbData s = .next { s with herr := true, rdata := 0 })
      ∧ (s.phase = .idle → s.slbAddr.toNat < s.params.slbBytes →
          exec .rdSlbData s = .next
            { s with
              rdata := (s.slbByte s.slbAddr.toNat).setWidth 32
              slbAddr := BitVec.ofNat 18 ((s.slbAddr.toNat + 1) % 2 ^ 18) })
      ∧ (s.phase = .idle → s.params.slbBytes ≤ s.slbAddr.toNat →
          exec .rdSlbData s = .next
            { s with herr := true, rdata := 0, slbAddr := BitVec.ofNat 18 ((s.slbAddr.toNat + 1) % 2 ^ 18) })

/-- A write through the SLB window (R75, R127), in its three cases, with its frame over the SLB byte by byte. -/
def Obligations.SlbWindowWrite : Prop :=
  ∀ (s : State) (d : Word), ∃ t, exec (.wrSlbData d) s = .next t
    ∧ (s.phase ≠ .idle → t = { s with herr := true })
    ∧ (s.phase = .idle → s.slbAddr.toNat < s.params.slbBytes →
        t = { s with slb := t.slb, slbAddr := BitVec.ofNat 18 ((s.slbAddr.toNat + 1) % 2 ^ 18) }
          ∧ t.slbByte s.slbAddr.toNat = BitVec.ofNat 8 (d.toNat % 256)
          ∧ ∀ a, a ≠ s.slbAddr.toNat → t.slbByte a = s.slbByte a)
    ∧ (s.phase = .idle → s.params.slbBytes ≤ s.slbAddr.toNat →
        t = { s with herr := true, slbAddr := BitVec.ofNat 18 ((s.slbAddr.toNat + 1) % 2 ^ 18) })

/-- HERR is set by the accesses of R260's table and by no other: if an operation leaves HERR 1 where it was 0, it is
one of the five cases. -/
def Obligations.HerrOnlyByTheFiveCases : Prop :=
  ∀ (i : Instr) (s : State), s.herr = false →
    ((∃ t, exec i s = .next t ∧ t.herr = true) ↔
      (s.phase ≠ .idle
          ∧ (i = .nop ∨ i = .decomp ∨ i = .comp ∨ i = .compP ∨ i = .unpack ∨ i = .drow ∨ ∃ d, i = .wrCmd d))
        ∨ ((s.eos = true ∨ s.inFifo.length = s.params.inDepth) ∧ ∃ d, i = .wrInData d)
        ∨ (s.phase ≠ .idle ∧ ∃ d : Word, d.getLsbD 1 = true ∧ i = .wrInCtrl d)
        ∨ ((s.phase ≠ .idle ∨ s.params.slbBytes ≤ s.slbAddr.toNat) ∧ (i = .rdSlbData ∨ ∃ d, i = .wrSlbData d)))

/-! ## Command issue -/

/-- NOP (R240). -/
def Obligations.NopHasNoEffect : Prop :=
  ∀ s : State,
    (s.phase = .idle → exec .nop s = .next s)
      ∧ (s.phase ≠ .idle → exec .nop s = .next { s with herr := true })

/-- A CMD write while BUSY, whatever its word, sets HERR and changes nothing else (R260 case 1). -/
def Obligations.BusyIgnoresCommandWrites : Prop :=
  ∀ (s : State) (d : Word), s.phase ≠ .idle →
    ∀ i ∈ [Instr.nop, Instr.decomp, Instr.comp, Instr.compP, Instr.unpack, Instr.drow, Instr.wrCmd d],
      exec i s = .next { s with herr := true }

/-- ILLEGAL_CMD (R96, R257), with legality written from R96's three conditions. -/
def Obligations.IllegalCommandIsReported : Prop :=
  ∀ (s : State) (d : Word),
    (5 ≤ d.toNat % 16 ∨ d.toNat / 32 ≠ 0 ∨ (d.toNat / 16 % 2 = 1 ∧ d.toNat % 16 ≠ 2)) →
      (s.phase = .idle →
          exec (.wrCmd d) s = .next { s with done := false, err := true, errcode := .illegalCmd })
        ∧ (s.phase ≠ .idle → exec (.wrCmd d) s = .next { s with herr := true })

/-- The issue of DECOMP while idle (R140): LEN is latched, and checked against SLB_BYTES. -/
def Obligations.DecompIssue : Prop :=
  ∀ s : State, s.phase = .idle →
    exec .decomp s = .next
      (State.startEnds { s.started .decomp with lN := s.len } .dec
        (if s.params.slbBytes < s.len.toNat then some .lenRange else none))

/-- The issue of COMP and of COMP.P while idle (R170): every LEN starts. -/
def Obligations.CompIssue : Prop :=
  ∀ s : State, s.phase = .idle →
    exec .comp s = .next { s.started .comp with lLen := s.len, lPad := false, phase := .cmp }
      ∧ exec .compP s = .next { s.started .comp with lLen := s.len, lPad := true, phase := .cmp }

/-- The issue of UNPACK while idle (R200, R256). -/
def Obligations.UnpackIssue : Prop :=
  ∀ s : State, s.phase = .idle →
    exec .unpack s = .next
      (State.startEnds
        { s.started .unpack with lBps := s.bps, lPlanes := s.planes, lBpl := s.bpl, lWidth := s.width } .unp
        (geometryCode s.bps.toNat s.planes.toNat s.bpl.toNat s.width.toNat s.params.slbBytes))

/-- The issue of DROW while idle (R242, R256): L_N is the exact product BPL × PLANES (R95). -/
def Obligations.DrowIssue : Prop :=
  ∀ s : State, s.phase = .idle →
    exec .drow s = .next
      (State.startEnds
        { s.started .drow with
          lBps := s.bps, lPlanes := s.planes, lBpl := s.bpl, lWidth := s.width
          lN := BitVec.ofNat 32 (s.bpl.toNat * s.planes.toNat) } .dec
        (geometryCode s.bps.toNat s.planes.toNat s.bpl.toNat s.width.toNat s.params.slbBytes))

/-! ## Engine steps

`s.events = []` is the model's way to let the engine take the next step (log entry 4). -/

/-- DEC takes the first byte of a unit (R99, R143): a run-count byte (≥ 0xC0) is kept, a literal is written at
SLB_COUNT; no other SLB byte changes. -/
def Obligations.DecTakesUnitByte : Prop :=
  ∀ (s : State) (b : Byte) (rest : List Byte), s.Inv → s.events = [] → s.phase = .dec → s.slbCount ≠ s.lN →
    s.dWait = false → s.inFifo = b :: rest →
      (0xC0 ≤ b.toNat →
          step s = .next
            { s with
              inFifo := rest, inCount := s.inCount + 1, dWait := true, dCnt := BitVec.ofNat 6 (b.toNat % 64) })
        ∧ (b.toNat < 0xC0 → ∃ t, step s = .next t
            ∧ t = { s with inFifo := rest, inCount := s.inCount + 1, slbCount := s.slbCount + 1, slb := t.slb }
            ∧ t.slbByte s.slbCount.toNat = b ∧ ∀ a, a ≠ s.slbCount.toNat → t.slbByte a = s.slbByte a)

/-- DEC takes the value byte of a run of count c with `room` bytes left (R143, R145, R147): min c room copies are
written, and the command fails with RUN_OVERRUN exactly when c > room. That op and the latched operands keep their
values after the failure is the model's choice (U2, log entry 3). -/
def Obligations.DecWritesRun : Prop :=
  ∀ (s : State) (v : Byte) (rest : List Byte), s.Inv → s.events = [] → s.phase = .dec → s.slbCount ≠ s.lN →
    s.dWait = true → s.inFifo = v :: rest →
      ∃ t, step s = .next t
        ∧ t.inFifo = rest ∧ t.inCount = s.inCount + 1 ∧ t.dWait = false
        ∧ t.slbCount.toNat = s.slbCount.toNat + min s.dCnt.toNat (s.lN.toNat - s.slbCount.toNat)
        ∧ (∀ a, t.slbByte a = if s.slbCount.toNat ≤ a ∧ a < t.slbCount.toNat then v else s.slbByte a)
        ∧ (s.dCnt.toNat ≤ s.lN.toNat - s.slbCount.toNat →
            t = { s with inFifo := rest, inCount := t.inCount, dWait := false, slbCount := t.slbCount, slb := t.slb })
        ∧ (s.lN.toNat - s.slbCount.toNat < s.dCnt.toNat →
            t = { s with
              inFifo := rest, inCount := t.inCount, dWait := false, slbCount := t.slbCount, slb := t.slb
              phase := .idle, err := true, errcode := .runOverrun, dCnt := 0 })

/-- How DEC ends or waits (R143, R146, R148, R242): at SLB_COUNT = L_N before any pop, by completion or by DROW's
UNP phase; out of bytes, by STREAM_TRUNCATED when EOS is set, and else by holding. That op and the latched operands
keep their values after the end is the model's choice (U2, log entry 3). -/
def Obligations.DecEndsOrHolds : Prop :=
  ∀ s : State, s.Inv → s.events = [] → s.phase = .dec →
    (s.slbCount = s.lN → s.op = .decomp →
        step s = .next { s with phase := .idle, done := true, dWait := false, dCnt := 0 })
      ∧ (s.slbCount = s.lN → s.op = .drow → step s = .next { s with phase := .unp, dWait := false, dCnt := 0 })
      ∧ (s.slbCount ≠ s.lN → s.inFifo = [] → s.eos = true →
          step s = .next
            { s with phase := .idle, err := true, errcode := .streamTruncated, dWait := false, dCnt := 0 })
      ∧ (s.slbCount ≠ s.lN → s.inFifo = [] → s.eos = false → step s = .next s)

/-- How CMP ends or waits (R175, R176): the pending run is flushed at the end of input when 2 bytes of output space
are free; a truncated input discards it, whatever the output space. That op and the latched operands keep their values
after the end is the model's choice (U2, log entry 3). -/
def Obligations.CmpEndsOrHolds : Prop :=
  ∀ s : State, s.Inv → s.events = [] → s.phase = .cmp →
    (s.inCount = s.lLen → (s.needPad = false ∨ s.cPadDone = true) → s.cHave = false →
        step s = .next { s with phase := .idle, done := true, cVal := 0, cCnt := 0, cPadDone := false })
      ∧ (s.inCount = s.lLen → (s.needPad = false ∨ s.cPadDone = true) → s.cHave = true →
          s.outFifo.length + 2 ≤ s.params.outDepth →
          step s = .next
            { s with
              phase := .idle, done := true, cHave := false, cVal := 0, cCnt := 0, cPadDone := false
              outFifo := s.outFifo ++ unit s.cVal s.cCnt.toNat
              outCount := s.outCount + BitVec.ofNat 32 (unit s.cVal s.cCnt.toNat).length })
      ∧ (s.inCount ≠ s.lLen → s.inFifo = [] → s.eos = true →
          step s = .next
            { s with
              phase := .idle, err := true, errcode := .streamTruncated
              cHave := false, cVal := 0, cCnt := 0, cPadDone := false })
      ∧ (s.inCount ≠ s.lLen → s.inFifo = [] → s.eos = false → step s = .next s)
      ∧ (s.params.outDepth < s.outFifo.length + 2 → (s.inFifo ≠ [] ∨ s.inCount = s.lLen) →
          (s.inCount = s.lLen → (s.needPad = false ∨ s.cPadDone = true) → s.cHave = true) → step s = .next s)

/-- UNP pushes one index a step, in column order, completes at L_WIDTH, and holds on a full index FIFO (R210). That op
and the latched operands keep their values after completion is the model's choice (U2, log entry 3). -/
def Obligations.UnpPushesOneIndex : Prop :=
  ∀ s : State, s.Inv → s.events = [] → s.phase = .unp →
    (s.idxCount.toNat = s.lWidth.toNat → step s = .next { s with phase := .idle, done := true })
      ∧ (s.idxCount.toNat ≠ s.lWidth.toNat → s.idxFifo.length = s.params.idxDepth → step s = .next s)
      ∧ (s.idxCount.toNat ≠ s.lWidth.toNat → s.idxFifo.length ≠ s.params.idxDepth →
          step s = .next
            { s with
              idxFifo := s.idxFifo
                ++ [indexOf s.slbByte (unpackMode s.lPlanes s.lBps) s.lBps.toNat s.lPlanes.toNat s.lBpl.toNat
                  s.idxCount.toNat]
              idxCount := BitVec.ofNat 32 (s.idxCount.toNat + 1) })

/-- Which mode each pair (PLANES, BPS) has (R94), and the index of a column in the three modes, from R212, R213 and
R214: BYTE is the byte; SUB has BPS bits, its bit k
being the byte's bit 8 - BPS (j + 1) + k; PLANAR's bit i is plane i's bit 7 - x mod 8 at byte x / 8. -/
def Obligations.IndexModesAndBits : Prop :=
  (∀ planes bps : BitVec 4,
      unpackMode planes bps =
        if (planes.toNat, bps.toNat) = (1, 8) then .byte
        else if (planes.toNat, bps.toNat) ∈ [(1, 1), (1, 2), (1, 4)] then .sub
        else if (planes.toNat, bps.toNat) ∈ [(2, 1), (3, 1), (4, 1)] then .planar
        else .none)
    ∧ ∀ (byteAt : Nat → Byte) (bps planes bpl x k : Nat), k < 8 →
      indexOf byteAt .byte bps planes bpl x = byteAt x
        ∧ (bps ∈ [1, 2, 4] →
            (indexOf byteAt .sub bps planes bpl x).getLsbD k =
              (decide (k < bps) && (byteAt (x / (8 / bps))).getLsbD (8 - bps * (x % (8 / bps) + 1) + k)))
        ∧ (planes ≤ 4 →
            (indexOf byteAt .planar bps planes bpl x).getLsbD k =
              (decide (k < planes) && (byteAt (k * bpl + x / 8)).getLsbD (7 - x % 8)))

/-- A geometry that passes the checks keeps every read of its row inside the scanline and the SLB (R205, R207). -/
def Obligations.RowReadsStayInScanline : Prop :=
  ∀ (s : State) (x a : Nat), s.geometryError = none → x < s.lWidth.toNat → a ∈ s.indexReads x →
    a < s.lBpl.toNat * s.lPlanes.toNat ∧ a < s.params.slbBytes

/-! ## The whole machine -/

/-- The state after power-up meets the invariant at every choice of parameters that R6 allows, and so does the state
after reset (its BASE_ADDR is the model's choice, log entry 2). -/
def Obligations.ResetMeetsInvariant : Prop :=
  State.reset.Inv ∧ ∀ p : Params, p.valid = true → (State.powerUp p).Inv

/-- Every step keeps the invariant. -/
def Obligations.StepKeepsInvariant : Prop :=
  ∀ s t : State, s.Inv → step s = .next t → t.Inv

/-- No access and no engine step faults (R250): under the invariant no step ends in a fault. -/
def Obligations.NoStepFaults : Prop :=
  ∀ (s : State) (f : Fault), s.Inv → step s ≠ .fault f

/-- A running command ends in exactly one of three ways (R237): completed, failed with a code, or reset. -/
def Obligations.ThreeWaysACommandEnds : Prop :=
  ∀ s t : State, s.Inv → step s = .next t → s.phase ≠ .idle → t.phase = .idle →
    (t.done = true ∧ t.err = false ∧ ¬s.nextResets)
      ∨ (t.done = false ∧ t.err = true ∧ t.errcode ≠ .none ∧ ¬s.nextResets)
      ∨ (t.done = false ∧ t.err = false ∧ s.nextResets)

/-- What an error records and preserves (R254, R255, R256, R257), for every step that takes ERR from 0 to 1. In every
such step the engine is idle with its run state clear, and the output side, EOS, HERR and the registers stand. An
error during execution keeps op, the latched operands and the counters; one at issue keeps the input FIFO and the SLB,
and ILLEGAL_CMD keeps the counters, op and the latched operands too, where a failed check has cleared the counters.
The spec leaves op and the latched operands unspecified while IDLE (R46, R47, U2): that an execution error keeps them
is the model's choice (log entry 3). An issue while ERR is already 1 is in IllegalCommandIsReported and the statements
of each issue. -/
def Obligations.ErrorsRecordTheCodeAndKeepTheRest : Prop :=
  ∀ s t : State, s.Inv → step s = .next t → s.err = false → t.err = true →
    t.phase = .idle ∧ t.done = false ∧ t.errcode ≠ .none
      ∧ t.dWait = false ∧ t.dCnt = 0 ∧ t.cHave = false ∧ t.cVal = 0 ∧ t.cCnt = 0 ∧ t.cPadDone = false
      ∧ t.outFifo = s.outFifo ∧ t.idxFifo = s.idxFifo ∧ t.eos = s.eos ∧ t.herr = s.herr
      ∧ t.len = s.len ∧ t.bps = s.bps ∧ t.planes = s.planes ∧ t.bpl = s.bpl ∧ t.width = s.width
      ∧ t.doneIe = s.doneIe ∧ t.errIe = s.errIe ∧ t.herrIe = s.herrIe ∧ t.slbAddr = s.slbAddr
      ∧ (s.phase ≠ .idle ∨ t.errcode = .illegalCmd →
          t.op = s.op ∧ t.lN = s.lN ∧ t.lLen = s.lLen ∧ t.lPad = s.lPad
            ∧ t.lBps = s.lBps ∧ t.lPlanes = s.lPlanes ∧ t.lBpl = s.lBpl ∧ t.lWidth = s.lWidth)
      ∧ (s.phase ≠ .idle →
          t.outCount = s.outCount ∧ t.idxCount = s.idxCount
            ∧ (t.errcode = .streamTruncated ∧ t.slb = s.slb ∧ t.slbCount = s.slbCount
                  ∧ t.inCount = s.inCount ∧ t.inFifo = s.inFifo
                ∨ t.errcode = .runOverrun ∧ s.phase = .dec ∧ t.slbCount = s.lN ∧ t.inCount = s.inCount + 1
                  ∧ t.inFifo = s.inFifo.tail))
      ∧ (s.phase = .idle →
          t.inFifo = s.inFifo ∧ t.slb = s.slb
            ∧ (t.errcode = .illegalCmd →
                t.inCount = s.inCount ∧ t.outCount = s.outCount ∧ t.slbCount = s.slbCount ∧ t.idxCount = s.idxCount)
            ∧ (t.errcode ≠ .illegalCmd → t.inCount = 0 ∧ t.outCount = 0 ∧ t.slbCount = 0 ∧ t.idxCount = 0))

/-- The latched operands and `op` are constant until the command ends (R47), whatever the host writes meanwhile. -/
def Obligations.LatchedOperandsAreConstant : Prop :=
  ∀ s t : State, step s = .next t → s.phase ≠ .idle → t.phase ≠ .idle →
    t.op = s.op ∧ t.lN = s.lN ∧ t.lLen = s.lLen ∧ t.lPad = s.lPad ∧ t.lBps = s.lBps ∧ t.lPlanes = s.lPlanes
      ∧ t.lBpl = s.lBpl ∧ t.lWidth = s.lWidth

/-- The engine reads no flag and no operand register (R51, R83): changing HERR, LEN, GEOM, WIDTH, IRQ_EN and SLB_ADDR
under a running command changes nothing else of what its next step leaves. -/
def Obligations.EngineIgnoresFlagsAndOperandRegisters : Prop :=
  ∀ (s : State) (herr doneIe errIe herrIe : Bool) (len : BitVec 32) (bps planes : BitVec 4) (bpl : BitVec 16)
    (width : BitVec 17) (slbAddr : BitVec 18) (t : State), s.events = [] → step s = .next t →
      step
          { s with
            herr := herr, doneIe := doneIe, errIe := errIe, herrIe := herrIe, len := len, bps := bps
            planes := planes, bpl := bpl, width := width, slbAddr := slbAddr } =
        .next
          { t with
            herr := herr, doneIe := doneIe, errIe := errIe, herrIe := herrIe, len := len, bps := bps
            planes := planes, bpl := bpl, width := width, slbAddr := slbAddr }

/-- HERR is sticky (R261): it falls only by a write to STATUS with bit 3 set, or a reset. -/
def Obligations.HerrIsSticky : Prop :=
  ∀ s t : State, step s = .next t → s.herr = true → t.herr = false →
    s.nextResets ∨ ∃ d : Word, d.getLsbD 3 = true ∧ s.nextIs (.wrStatus d)

/-- What writes the SLB (R40, R205, R294): a DEC step, at addresses SLB_COUNT up to the new SLB_COUNT only (R141), or a
window write while idle, at SLB_ADDR only. -/
def Obligations.WhatWritesTheSlb : Prop :=
  ∀ (s t : State) (a : Nat), s.Inv → step s = .next t → t.slbByte a ≠ s.slbByte a →
    (s.phase = .dec ∧ s.slbCount.toNat ≤ a ∧ a < t.slbCount.toNat ∧ a < s.lN.toNat)
      ∨ (s.phase = .idle ∧ a = s.slbAddr.toNat ∧ a < s.params.slbBytes ∧ ∃ d, s.nextIs (.wrSlbData d))

/-- Only the accesses R290 names, or a reset, can end a hold: a push or EOS_SET for an input hold, a read of OUT_DATA
for the compressor's output hold, a read of IDX_DATA for the unpacker's. -/
def Obligations.WhatLiftsAHold : Prop :=
  ∀ s t : State, step s = .next t →
    (s.inWait = true → t.inWait = false →
        (∃ d, s.nextIs (.wrInData d)) ∨ (∃ d : Word, d.getLsbD 0 = true ∧ s.nextIs (.wrInCtrl d)) ∨ s.nextResets)
      ∧ (s.outWait = true → t.outWait = false →
          (s.phase = .cmp ∧ s.nextIs .rdOutData) ∨ (s.phase = .unp ∧ s.nextIs .rdIdxData) ∨ s.nextResets)

/-! ## The reference functions -/

/-- The round trip (R179): decompressing what the compressor makes of T, to the length of T, gives T back, takes
exactly all of the output and ends without error. -/
def Obligations.DecodeOfEncodedStream : Prop :=
  ∀ t : List Byte, rleDecode (rleEncode t) t.length = { out := t, taken := (rleEncode t).length, status := .none }

/-- The segmentation of T (R172): the runs spell T, each has 1 to 63 bytes, and two neighbours of the same value occur
only where the first has 63. The output is the units of those runs, in order (R171), each as R101 writes it: one byte
for a single byte below 0xC0, and `[0xC0 | n, v]` for every other run. -/
def Obligations.SegmentationIntoRunsAndUnits : Prop :=
  (∀ (v : Byte) (n : Nat), 1 ≤ n → n ≤ 63 →
      unit v n = if n = 1 ∧ v.toNat < 0xC0 then [v] else [BitVec.ofNat 8 (0xC0 + n), v])
    ∧ ∀ t : List Byte,
      rleEncode t = (runsOf t).flatMap (fun r => unit r.1 r.2)
        ∧ (runsOf t).flatMap (fun r => List.replicate r.2 r.1) = t
        ∧ (∀ r ∈ runsOf t, 1 ≤ r.2 ∧ r.2 ≤ 63)
        ∧ ∀ (l₁ l₂ : List (Byte × Nat)) (x y : Byte × Nat), runsOf t = l₁ ++ x :: y :: l₂ → x.1 = y.1 → x.2 = 63

/-- The size of the output (R178): `2q + e ≤ len(rle_encode(T)) ≤ 2n`. -/
def Obligations.OutputSizeBounds : Prop :=
  ∀ t : List Byte,
    2 * (t.length / 63) + min 2 (t.length % 63) ≤ (rleEncode t).length ∧ (rleEncode t).length ≤ 2 * t.length

/-- DECOMP gives the result of R142 under every interleaving of engine steps with a host that feeds it (R150): once the
command has ended, with every push accepted, its outcome is `rle_decode` of the bytes queued at issue followed by the
bytes pushed. -/
def Obligations.DecompAgreesWithReference : Prop :=
  ∀ (s t : State) (es : List Event), s.phase = .idle → s.len.toNat ≤ s.params.slbBytes →
    s.events = .host (encode s.params.baseAddr .decomp) :: es →
    (∀ e ∈ es, streamEvent s.params.baseAddr e = true) →
    Host.Core.run Sys2Proof.core (es.length + 1) s = .next t → t.phase = .idle → t.herr = false →
      let fed := s.inFifo ++ es.flatMap (offeredByte s.params.baseAddr)
      let r := rleDecode fed s.len.toNat
      t.done = decide (r.status = .none) ∧ t.err = decide (r.status ≠ .none) ∧ t.errcode = r.status
        ∧ t.slbCount.toNat = r.out.length ∧ t.inCount = BitVec.ofNat 32 r.taken ∧ t.inFifo = fed.drop r.taken
        ∧ ∀ a, t.slbByte a = r.out.getD a (s.slbByte a)

/-- Every engine step of a compression emits the next of the bytes R171 gives, whatever else is queued or pushed later
(R180): what is left to emit before the step is what the step emits and what is left after it. A step that takes a byte
`b`, the head of the FIFO (counted in IN_COUNT) or the pad byte (not counted), leaves the state Accumulate(b) of R175
says, in its four cases, and nothing else changes. -/
def Obligations.CompStepsEmitTheReference : Prop :=
  ∀ (s : State) (more : List Byte), s.Inv → s.events = [] → s.phase = .cmp →
    (∀ t, step s = .next t → t.err = false →
        ∃ e : List Byte, t.outFifo = s.outFifo ++ e ∧ t.outCount = s.outCount + BitVec.ofNat 32 e.length
          ∧ s.bytesToCome more = e ++ (if t.phase = .idle then [] else t.bytesToCome more)
          ∧ (t.inFifo = s.inFifo ∧ t.inCount = s.inCount
              ∨ ∃ b, s.inFifo = b :: t.inFifo ∧ t.inCount = s.inCount + 1))
      ∧ ∀ (u : State) (b : Byte), s.outFifo.length + 2 ≤ s.params.outDepth →
          ((s.inCount.toNat < s.lLen.toNat ∧ ∃ rest, s.inFifo = b :: rest
                ∧ u = { s with inFifo := rest, inCount := s.inCount + 1 })
            ∨ (s.inCount = s.lLen ∧ s.needPad = true ∧ s.cPadDone = false ∧ b = 0x00
                ∧ u = { s with cPadDone := true })) →
            (s.cHave = false → step s = .next { u with cHave := true, cVal := b, cCnt := 1 })
              ∧ (s.cHave = true → b = s.cVal → s.cCnt.toNat + 1 < 63 →
                  step s = .next { u with cCnt := s.cCnt + 1 })
              ∧ (s.cHave = true → b = s.cVal → s.cCnt.toNat + 1 = 63 →
                  step s = .next
                    { u with
                      cHave := false, cCnt := 63
                      outFifo := s.outFifo ++ [0xFF, b], outCount := s.outCount + 2 })
              ∧ (s.cHave = true → b ≠ s.cVal →
                  step s = .next
                    { u with
                      cVal := b, cCnt := 1
                      outFifo := s.outFifo ++ unit s.cVal s.cCnt.toNat
                      outCount := s.outCount + BitVec.ofNat 32 (unit s.cVal s.cCnt.toNat).length })

/-- COMP and COMP.P run to completion with the result of R171 when their input is queued and the output fits. -/
def Obligations.CompAgreesWithReference : Prop :=
  ∀ (s : State) (pad : Bool), s.Inv → s.phase = .idle → s.events = [] →
    s.len.toNat ≤ s.inFifo.length →
    (rleEncode (compInput s.inFifo s.len.toNat pad)).length + 1 + s.outFifo.length ≤ s.params.outDepth →
      ∃ (u t : State) (n : Nat), exec (if pad then .compP else .comp) s = .next u
        ∧ Host.Core.run Sys2Proof.core n u = .next t
        ∧ t.phase = .idle ∧ t.done = true ∧ t.err = false
        ∧ t.outFifo = s.outFifo ++ rleEncode (compInput s.inFifo s.len.toNat pad)
        ∧ t.outCount.toNat = (rleEncode (compInput s.inFifo s.len.toNat pad)).length
        ∧ t.inCount = s.len ∧ t.inFifo = s.inFifo.drop s.len.toNat
        ∧ t.slb = s.slb ∧ t.idxFifo = s.idxFifo

/-- A COMP or COMP.P whose input ends early fails with STREAM_TRUNCATED and has emitted the runs R176 says: the pending
run is discarded. -/
def Obligations.TruncatedCompDiscardsPendingRun : Prop :=
  ∀ (s : State) (pad : Bool), s.Inv → s.phase = .idle → s.events = [] → s.eos = true →
    s.inFifo.length < s.len.toNat →
    (rleEncode s.inFifo).length + 1 + s.outFifo.length ≤ s.params.outDepth →
      ∃ (u t : State) (n : Nat), exec (if pad then .compP else .comp) s = .next u
        ∧ Host.Core.run Sys2Proof.core n u = .next t
        ∧ t.phase = .idle ∧ t.done = false ∧ t.err = true ∧ t.errcode = .streamTruncated
        ∧ t.outFifo = s.outFifo ++ unitsOf (emittedRuns (runsOf s.inFifo))
        ∧ t.inCount.toNat = s.inFifo.length ∧ t.inFifo = []

/-- UNPACK runs to completion with the row of indices of R211 when its geometry passes and the index FIFO has room. -/
def Obligations.UnpackAgreesWithReference : Prop :=
  ∀ s : State, s.Inv → s.phase = .idle → s.events = [] →
    geometryCode s.bps.toNat s.planes.toNat s.bpl.toNat s.width.toNat s.params.slbBytes = none →
    s.idxFifo.length + s.width.toNat ≤ s.params.idxDepth →
      ∃ (u t : State) (n : Nat), exec .unpack s = .next u ∧ Host.Core.run Sys2Proof.core n u = .next t
        ∧ t.phase = .idle ∧ t.done = true ∧ t.err = false
        ∧ t.idxFifo = s.idxFifo
            ++ indexRow s.slbByte (unpackMode s.planes s.bps) s.bps.toNat s.planes.toNat s.bpl.toNat s.width.toNat
        ∧ t.idxCount.toNat = s.width.toNat
        ∧ t.slb = s.slb ∧ t.inFifo = s.inFifo ∧ t.outFifo = s.outFifo

/-- DROW against its parts (R244): where the row decodes and its indices fit, a DROW leaves the SLB bytes, the input
FIFO and the index FIFO that a DECOMP with LEN = BPL × PLANES followed by an UNPACK leaves. -/
def Obligations.DrowEqualsDecompThenUnpack : Prop :=
  ∀ s : State, s.Inv → s.phase = .idle → s.events = [] →
    geometryCode s.bps.toNat s.planes.toNat s.bpl.toNat s.width.toNat s.params.slbBytes = none →
    s.idxFifo.length + s.width.toNat ≤ s.params.idxDepth →
    s.len.toNat = s.bpl.toNat * s.planes.toNat →
    (rleDecode s.inFifo s.len.toNat).status = .none →
      ∃ (u₀ u v₀ v w₀ w : State) (n₁ n₂ n₃ : Nat),
        exec .drow s = .next u₀ ∧ Host.Core.run Sys2Proof.core n₁ u₀ = .next u
          ∧ u.phase = .idle ∧ u.done = true ∧ u.slbCount = s.len ∧ u.idxCount.toNat = s.width.toNat
          ∧ u.inCount = BitVec.ofNat 32 (rleDecode s.inFifo s.len.toNat).taken
          ∧ exec .decomp s = .next v₀ ∧ Host.Core.run Sys2Proof.core n₂ v₀ = .next v ∧ v.phase = .idle ∧ v.done = true
          ∧ exec .unpack v = .next w₀ ∧ Host.Core.run Sys2Proof.core n₃ w₀ = .next w ∧ w.phase = .idle ∧ w.done = true
          ∧ u.slb = w.slb ∧ u.inFifo = w.inFifo ∧ u.idxFifo = w.idxFifo
end

