-- ==== Sys2Proof/Laws/State.lean ====
section
/-! SUPPORT. What each named update of State leaves in each field: one lemma per field per update, each true by rfl,
so that no proof unfolds a record update. -/

namespace Sys2Proof.Machine

variable (s : State)

/-! ## ret -/

@[simp] theorem State.ret_params (v : Word) : (s.ret v).params = s.params := rfl
@[simp] theorem State.ret_len (v : Word) : (s.ret v).len = s.len := rfl
@[simp] theorem State.ret_bps (v : Word) : (s.ret v).bps = s.bps := rfl
@[simp] theorem State.ret_planes (v : Word) : (s.ret v).planes = s.planes := rfl
@[simp] theorem State.ret_bpl (v : Word) : (s.ret v).bpl = s.bpl := rfl
@[simp] theorem State.ret_width (v : Word) : (s.ret v).width = s.width := rfl
@[simp] theorem State.ret_doneIe (v : Word) : (s.ret v).doneIe = s.doneIe := rfl
@[simp] theorem State.ret_errIe (v : Word) : (s.ret v).errIe = s.errIe := rfl
@[simp] theorem State.ret_herrIe (v : Word) : (s.ret v).herrIe = s.herrIe := rfl
@[simp] theorem State.ret_slbAddr (v : Word) : (s.ret v).slbAddr = s.slbAddr := rfl
@[simp] theorem State.ret_done (v : Word) : (s.ret v).done = s.done := rfl
@[simp] theorem State.ret_err (v : Word) : (s.ret v).err = s.err := rfl
@[simp] theorem State.ret_errcode (v : Word) : (s.ret v).errcode = s.errcode := rfl
@[simp] theorem State.ret_herr (v : Word) : (s.ret v).herr = s.herr := rfl
@[simp] theorem State.ret_inCount (v : Word) : (s.ret v).inCount = s.inCount := rfl
@[simp] theorem State.ret_outCount (v : Word) : (s.ret v).outCount = s.outCount := rfl
@[simp] theorem State.ret_slbCount (v : Word) : (s.ret v).slbCount = s.slbCount := rfl
@[simp] theorem State.ret_idxCount (v : Word) : (s.ret v).idxCount = s.idxCount := rfl
@[simp] theorem State.ret_slb (v : Word) : (s.ret v).slb = s.slb := rfl
@[simp] theorem State.ret_inFifo (v : Word) : (s.ret v).inFifo = s.inFifo := rfl
@[simp] theorem State.ret_eos (v : Word) : (s.ret v).eos = s.eos := rfl
@[simp] theorem State.ret_outFifo (v : Word) : (s.ret v).outFifo = s.outFifo := rfl
@[simp] theorem State.ret_idxFifo (v : Word) : (s.ret v).idxFifo = s.idxFifo := rfl
@[simp] theorem State.ret_phase (v : Word) : (s.ret v).phase = s.phase := rfl
@[simp] theorem State.ret_op (v : Word) : (s.ret v).op = s.op := rfl
@[simp] theorem State.ret_lN (v : Word) : (s.ret v).lN = s.lN := rfl
@[simp] theorem State.ret_lLen (v : Word) : (s.ret v).lLen = s.lLen := rfl
@[simp] theorem State.ret_lPad (v : Word) : (s.ret v).lPad = s.lPad := rfl
@[simp] theorem State.ret_lBps (v : Word) : (s.ret v).lBps = s.lBps := rfl
@[simp] theorem State.ret_lPlanes (v : Word) : (s.ret v).lPlanes = s.lPlanes := rfl
@[simp] theorem State.ret_lBpl (v : Word) : (s.ret v).lBpl = s.lBpl := rfl
@[simp] theorem State.ret_lWidth (v : Word) : (s.ret v).lWidth = s.lWidth := rfl
@[simp] theorem State.ret_dWait (v : Word) : (s.ret v).dWait = s.dWait := rfl
@[simp] theorem State.ret_dCnt (v : Word) : (s.ret v).dCnt = s.dCnt := rfl
@[simp] theorem State.ret_cHave (v : Word) : (s.ret v).cHave = s.cHave := rfl
@[simp] theorem State.ret_cVal (v : Word) : (s.ret v).cVal = s.cVal := rfl
@[simp] theorem State.ret_cCnt (v : Word) : (s.ret v).cCnt = s.cCnt := rfl
@[simp] theorem State.ret_cPadDone (v : Word) : (s.ret v).cPadDone = s.cPadDone := rfl
@[simp] theorem State.ret_rdata (v : Word) : (s.ret v).rdata = v := rfl
@[simp] theorem State.ret_events (v : Word) : (s.ret v).events = s.events := rfl

/-! ## setHerr -/

@[simp] theorem State.setHerr_params : (s.setHerr).params = s.params := rfl
@[simp] theorem State.setHerr_len : (s.setHerr).len = s.len := rfl
@[simp] theorem State.setHerr_bps : (s.setHerr).bps = s.bps := rfl
@[simp] theorem State.setHerr_planes : (s.setHerr).planes = s.planes := rfl
@[simp] theorem State.setHerr_bpl : (s.setHerr).bpl = s.bpl := rfl
@[simp] theorem State.setHerr_width : (s.setHerr).width = s.width := rfl
@[simp] theorem State.setHerr_doneIe : (s.setHerr).doneIe = s.doneIe := rfl
@[simp] theorem State.setHerr_errIe : (s.setHerr).errIe = s.errIe := rfl
@[simp] theorem State.setHerr_herrIe : (s.setHerr).herrIe = s.herrIe := rfl
@[simp] theorem State.setHerr_slbAddr : (s.setHerr).slbAddr = s.slbAddr := rfl
@[simp] theorem State.setHerr_done : (s.setHerr).done = s.done := rfl
@[simp] theorem State.setHerr_err : (s.setHerr).err = s.err := rfl
@[simp] theorem State.setHerr_errcode : (s.setHerr).errcode = s.errcode := rfl
@[simp] theorem State.setHerr_herr : (s.setHerr).herr = true := rfl
@[simp] theorem State.setHerr_inCount : (s.setHerr).inCount = s.inCount := rfl
@[simp] theorem State.setHerr_outCount : (s.setHerr).outCount = s.outCount := rfl
@[simp] theorem State.setHerr_slbCount : (s.setHerr).slbCount = s.slbCount := rfl
@[simp] theorem State.setHerr_idxCount : (s.setHerr).idxCount = s.idxCount := rfl
@[simp] theorem State.setHerr_slb : (s.setHerr).slb = s.slb := rfl
@[simp] theorem State.setHerr_inFifo : (s.setHerr).inFifo = s.inFifo := rfl
@[simp] theorem State.setHerr_eos : (s.setHerr).eos = s.eos := rfl
@[simp] theorem State.setHerr_outFifo : (s.setHerr).outFifo = s.outFifo := rfl
@[simp] theorem State.setHerr_idxFifo : (s.setHerr).idxFifo = s.idxFifo := rfl
@[simp] theorem State.setHerr_phase : (s.setHerr).phase = s.phase := rfl
@[simp] theorem State.setHerr_op : (s.setHerr).op = s.op := rfl
@[simp] theorem State.setHerr_lN : (s.setHerr).lN = s.lN := rfl
@[simp] theorem State.setHerr_lLen : (s.setHerr).lLen = s.lLen := rfl
@[simp] theorem State.setHerr_lPad : (s.setHerr).lPad = s.lPad := rfl
@[simp] theorem State.setHerr_lBps : (s.setHerr).lBps = s.lBps := rfl
@[simp] theorem State.setHerr_lPlanes : (s.setHerr).lPlanes = s.lPlanes := rfl
@[simp] theorem State.setHerr_lBpl : (s.setHerr).lBpl = s.lBpl := rfl
@[simp] theorem State.setHerr_lWidth : (s.setHerr).lWidth = s.lWidth := rfl
@[simp] theorem State.setHerr_dWait : (s.setHerr).dWait = s.dWait := rfl
@[simp] theorem State.setHerr_dCnt : (s.setHerr).dCnt = s.dCnt := rfl
@[simp] theorem State.setHerr_cHave : (s.setHerr).cHave = s.cHave := rfl
@[simp] theorem State.setHerr_cVal : (s.setHerr).cVal = s.cVal := rfl
@[simp] theorem State.setHerr_cCnt : (s.setHerr).cCnt = s.cCnt := rfl
@[simp] theorem State.setHerr_cPadDone : (s.setHerr).cPadDone = s.cPadDone := rfl
@[simp] theorem State.setHerr_rdata : (s.setHerr).rdata = s.rdata := rfl
@[simp] theorem State.setHerr_events : (s.setHerr).events = s.events := rfl

/-! ## inPopped -/

@[simp] theorem State.inPopped_params (rest : List Byte) : (s.inPopped rest).params = s.params := rfl
@[simp] theorem State.inPopped_len (rest : List Byte) : (s.inPopped rest).len = s.len := rfl
@[simp] theorem State.inPopped_bps (rest : List Byte) : (s.inPopped rest).bps = s.bps := rfl
@[simp] theorem State.inPopped_planes (rest : List Byte) : (s.inPopped rest).planes = s.planes := rfl
@[simp] theorem State.inPopped_bpl (rest : List Byte) : (s.inPopped rest).bpl = s.bpl := rfl
@[simp] theorem State.inPopped_width (rest : List Byte) : (s.inPopped rest).width = s.width := rfl
@[simp] theorem State.inPopped_doneIe (rest : List Byte) : (s.inPopped rest).doneIe = s.doneIe := rfl
@[simp] theorem State.inPopped_errIe (rest : List Byte) : (s.inPopped rest).errIe = s.errIe := rfl
@[simp] theorem State.inPopped_herrIe (rest : List Byte) : (s.inPopped rest).herrIe = s.herrIe := rfl
@[simp] theorem State.inPopped_slbAddr (rest : List Byte) : (s.inPopped rest).slbAddr = s.slbAddr := rfl
@[simp] theorem State.inPopped_done (rest : List Byte) : (s.inPopped rest).done = s.done := rfl
@[simp] theorem State.inPopped_err (rest : List Byte) : (s.inPopped rest).err = s.err := rfl
@[simp] theorem State.inPopped_errcode (rest : List Byte) : (s.inPopped rest).errcode = s.errcode := rfl
@[simp] theorem State.inPopped_herr (rest : List Byte) : (s.inPopped rest).herr = s.herr := rfl
@[simp] theorem State.inPopped_inCount (rest : List Byte) : (s.inPopped rest).inCount = s.inCount + 1 := rfl
@[simp] theorem State.inPopped_outCount (rest : List Byte) : (s.inPopped rest).outCount = s.outCount := rfl
@[simp] theorem State.inPopped_slbCount (rest : List Byte) : (s.inPopped rest).slbCount = s.slbCount := rfl
@[simp] theorem State.inPopped_idxCount (rest : List Byte) : (s.inPopped rest).idxCount = s.idxCount := rfl
@[simp] theorem State.inPopped_slb (rest : List Byte) : (s.inPopped rest).slb = s.slb := rfl
@[simp] theorem State.inPopped_inFifo (rest : List Byte) : (s.inPopped rest).inFifo = rest := rfl
@[simp] theorem State.inPopped_eos (rest : List Byte) : (s.inPopped rest).eos = s.eos := rfl
@[simp] theorem State.inPopped_outFifo (rest : List Byte) : (s.inPopped rest).outFifo = s.outFifo := rfl
@[simp] theorem State.inPopped_idxFifo (rest : List Byte) : (s.inPopped rest).idxFifo = s.idxFifo := rfl
@[simp] theorem State.inPopped_phase (rest : List Byte) : (s.inPopped rest).phase = s.phase := rfl
@[simp] theorem State.inPopped_op (rest : List Byte) : (s.inPopped rest).op = s.op := rfl
@[simp] theorem State.inPopped_lN (rest : List Byte) : (s.inPopped rest).lN = s.lN := rfl
@[simp] theorem State.inPopped_lLen (rest : List Byte) : (s.inPopped rest).lLen = s.lLen := rfl
@[simp] theorem State.inPopped_lPad (rest : List Byte) : (s.inPopped rest).lPad = s.lPad := rfl
@[simp] theorem State.inPopped_lBps (rest : List Byte) : (s.inPopped rest).lBps = s.lBps := rfl
@[simp] theorem State.inPopped_lPlanes (rest : List Byte) : (s.inPopped rest).lPlanes = s.lPlanes := rfl
@[simp] theorem State.inPopped_lBpl (rest : List Byte) : (s.inPopped rest).lBpl = s.lBpl := rfl
@[simp] theorem State.inPopped_lWidth (rest : List Byte) : (s.inPopped rest).lWidth = s.lWidth := rfl
@[simp] theorem State.inPopped_dWait (rest : List Byte) : (s.inPopped rest).dWait = s.dWait := rfl
@[simp] theorem State.inPopped_dCnt (rest : List Byte) : (s.inPopped rest).dCnt = s.dCnt := rfl
@[simp] theorem State.inPopped_cHave (rest : List Byte) : (s.inPopped rest).cHave = s.cHave := rfl
@[simp] theorem State.inPopped_cVal (rest : List Byte) : (s.inPopped rest).cVal = s.cVal := rfl
@[simp] theorem State.inPopped_cCnt (rest : List Byte) : (s.inPopped rest).cCnt = s.cCnt := rfl
@[simp] theorem State.inPopped_cPadDone (rest : List Byte) : (s.inPopped rest).cPadDone = s.cPadDone := rfl
@[simp] theorem State.inPopped_rdata (rest : List Byte) : (s.inPopped rest).rdata = s.rdata := rfl
@[simp] theorem State.inPopped_events (rest : List Byte) : (s.inPopped rest).events = s.events := rfl

/-! ## outPush -/

@[simp] theorem State.outPush_params (us : List Byte) : (s.outPush us).params = s.params := rfl
@[simp] theorem State.outPush_len (us : List Byte) : (s.outPush us).len = s.len := rfl
@[simp] theorem State.outPush_bps (us : List Byte) : (s.outPush us).bps = s.bps := rfl
@[simp] theorem State.outPush_planes (us : List Byte) : (s.outPush us).planes = s.planes := rfl
@[simp] theorem State.outPush_bpl (us : List Byte) : (s.outPush us).bpl = s.bpl := rfl
@[simp] theorem State.outPush_width (us : List Byte) : (s.outPush us).width = s.width := rfl
@[simp] theorem State.outPush_doneIe (us : List Byte) : (s.outPush us).doneIe = s.doneIe := rfl
@[simp] theorem State.outPush_errIe (us : List Byte) : (s.outPush us).errIe = s.errIe := rfl
@[simp] theorem State.outPush_herrIe (us : List Byte) : (s.outPush us).herrIe = s.herrIe := rfl
@[simp] theorem State.outPush_slbAddr (us : List Byte) : (s.outPush us).slbAddr = s.slbAddr := rfl
@[simp] theorem State.outPush_done (us : List Byte) : (s.outPush us).done = s.done := rfl
@[simp] theorem State.outPush_err (us : List Byte) : (s.outPush us).err = s.err := rfl
@[simp] theorem State.outPush_errcode (us : List Byte) : (s.outPush us).errcode = s.errcode := rfl
@[simp] theorem State.outPush_herr (us : List Byte) : (s.outPush us).herr = s.herr := rfl
@[simp] theorem State.outPush_inCount (us : List Byte) : (s.outPush us).inCount = s.inCount := rfl
@[simp] theorem State.outPush_outCount (us : List Byte) : (s.outPush us).outCount = s.outCount + BitVec.ofNat 32 us.length := rfl
@[simp] theorem State.outPush_slbCount (us : List Byte) : (s.outPush us).slbCount = s.slbCount := rfl
@[simp] theorem State.outPush_idxCount (us : List Byte) : (s.outPush us).idxCount = s.idxCount := rfl
@[simp] theorem State.outPush_slb (us : List Byte) : (s.outPush us).slb = s.slb := rfl
@[simp] theorem State.outPush_inFifo (us : List Byte) : (s.outPush us).inFifo = s.inFifo := rfl
@[simp] theorem State.outPush_eos (us : List Byte) : (s.outPush us).eos = s.eos := rfl
@[simp] theorem State.outPush_outFifo (us : List Byte) : (s.outPush us).outFifo = s.outFifo ++ us := rfl
@[simp] theorem State.outPush_idxFifo (us : List Byte) : (s.outPush us).idxFifo = s.idxFifo := rfl
@[simp] theorem State.outPush_phase (us : List Byte) : (s.outPush us).phase = s.phase := rfl
@[simp] theorem State.outPush_op (us : List Byte) : (s.outPush us).op = s.op := rfl
@[simp] theorem State.outPush_lN (us : List Byte) : (s.outPush us).lN = s.lN := rfl
@[simp] theorem State.outPush_lLen (us : List Byte) : (s.outPush us).lLen = s.lLen := rfl
@[simp] theorem State.outPush_lPad (us : List Byte) : (s.outPush us).lPad = s.lPad := rfl
@[simp] theorem State.outPush_lBps (us : List Byte) : (s.outPush us).lBps = s.lBps := rfl
@[simp] theorem State.outPush_lPlanes (us : List Byte) : (s.outPush us).lPlanes = s.lPlanes := rfl
@[simp] theorem State.outPush_lBpl (us : List Byte) : (s.outPush us).lBpl = s.lBpl := rfl
@[simp] theorem State.outPush_lWidth (us : List Byte) : (s.outPush us).lWidth = s.lWidth := rfl
@[simp] theorem State.outPush_dWait (us : List Byte) : (s.outPush us).dWait = s.dWait := rfl
@[simp] theorem State.outPush_dCnt (us : List Byte) : (s.outPush us).dCnt = s.dCnt := rfl
@[simp] theorem State.outPush_cHave (us : List Byte) : (s.outPush us).cHave = s.cHave := rfl
@[simp] theorem State.outPush_cVal (us : List Byte) : (s.outPush us).cVal = s.cVal := rfl
@[simp] theorem State.outPush_cCnt (us : List Byte) : (s.outPush us).cCnt = s.cCnt := rfl
@[simp] theorem State.outPush_cPadDone (us : List Byte) : (s.outPush us).cPadDone = s.cPadDone := rfl
@[simp] theorem State.outPush_rdata (us : List Byte) : (s.outPush us).rdata = s.rdata := rfl
@[simp] theorem State.outPush_events (us : List Byte) : (s.outPush us).events = s.events := rfl

/-! ## idxPush -/

@[simp] theorem State.idxPush_params (v : Byte) : (s.idxPush v).params = s.params := rfl
@[simp] theorem State.idxPush_len (v : Byte) : (s.idxPush v).len = s.len := rfl
@[simp] theorem State.idxPush_bps (v : Byte) : (s.idxPush v).bps = s.bps := rfl
@[simp] theorem State.idxPush_planes (v : Byte) : (s.idxPush v).planes = s.planes := rfl
@[simp] theorem State.idxPush_bpl (v : Byte) : (s.idxPush v).bpl = s.bpl := rfl
@[simp] theorem State.idxPush_width (v : Byte) : (s.idxPush v).width = s.width := rfl
@[simp] theorem State.idxPush_doneIe (v : Byte) : (s.idxPush v).doneIe = s.doneIe := rfl
@[simp] theorem State.idxPush_errIe (v : Byte) : (s.idxPush v).errIe = s.errIe := rfl
@[simp] theorem State.idxPush_herrIe (v : Byte) : (s.idxPush v).herrIe = s.herrIe := rfl
@[simp] theorem State.idxPush_slbAddr (v : Byte) : (s.idxPush v).slbAddr = s.slbAddr := rfl
@[simp] theorem State.idxPush_done (v : Byte) : (s.idxPush v).done = s.done := rfl
@[simp] theorem State.idxPush_err (v : Byte) : (s.idxPush v).err = s.err := rfl
@[simp] theorem State.idxPush_errcode (v : Byte) : (s.idxPush v).errcode = s.errcode := rfl
@[simp] theorem State.idxPush_herr (v : Byte) : (s.idxPush v).herr = s.herr := rfl
@[simp] theorem State.idxPush_inCount (v : Byte) : (s.idxPush v).inCount = s.inCount := rfl
@[simp] theorem State.idxPush_outCount (v : Byte) : (s.idxPush v).outCount = s.outCount := rfl
@[simp] theorem State.idxPush_slbCount (v : Byte) : (s.idxPush v).slbCount = s.slbCount := rfl
@[simp] theorem State.idxPush_idxCount (v : Byte) : (s.idxPush v).idxCount = s.idxCount + 1 := rfl
@[simp] theorem State.idxPush_slb (v : Byte) : (s.idxPush v).slb = s.slb := rfl
@[simp] theorem State.idxPush_inFifo (v : Byte) : (s.idxPush v).inFifo = s.inFifo := rfl
@[simp] theorem State.idxPush_eos (v : Byte) : (s.idxPush v).eos = s.eos := rfl
@[simp] theorem State.idxPush_outFifo (v : Byte) : (s.idxPush v).outFifo = s.outFifo := rfl
@[simp] theorem State.idxPush_idxFifo (v : Byte) : (s.idxPush v).idxFifo = s.idxFifo ++ [v] := rfl
@[simp] theorem State.idxPush_phase (v : Byte) : (s.idxPush v).phase = s.phase := rfl
@[simp] theorem State.idxPush_op (v : Byte) : (s.idxPush v).op = s.op := rfl
@[simp] theorem State.idxPush_lN (v : Byte) : (s.idxPush v).lN = s.lN := rfl
@[simp] theorem State.idxPush_lLen (v : Byte) : (s.idxPush v).lLen = s.lLen := rfl
@[simp] theorem State.idxPush_lPad (v : Byte) : (s.idxPush v).lPad = s.lPad := rfl
@[simp] theorem State.idxPush_lBps (v : Byte) : (s.idxPush v).lBps = s.lBps := rfl
@[simp] theorem State.idxPush_lPlanes (v : Byte) : (s.idxPush v).lPlanes = s.lPlanes := rfl
@[simp] theorem State.idxPush_lBpl (v : Byte) : (s.idxPush v).lBpl = s.lBpl := rfl
@[simp] theorem State.idxPush_lWidth (v : Byte) : (s.idxPush v).lWidth = s.lWidth := rfl
@[simp] theorem State.idxPush_dWait (v : Byte) : (s.idxPush v).dWait = s.dWait := rfl
@[simp] theorem State.idxPush_dCnt (v : Byte) : (s.idxPush v).dCnt = s.dCnt := rfl
@[simp] theorem State.idxPush_cHave (v : Byte) : (s.idxPush v).cHave = s.cHave := rfl
@[simp] theorem State.idxPush_cVal (v : Byte) : (s.idxPush v).cVal = s.cVal := rfl
@[simp] theorem State.idxPush_cCnt (v : Byte) : (s.idxPush v).cCnt = s.cCnt := rfl
@[simp] theorem State.idxPush_cPadDone (v : Byte) : (s.idxPush v).cPadDone = s.cPadDone := rfl
@[simp] theorem State.idxPush_rdata (v : Byte) : (s.idxPush v).rdata = s.rdata := rfl
@[simp] theorem State.idxPush_events (v : Byte) : (s.idxPush v).events = s.events := rfl

/-! ## slbAdvance -/

@[simp] theorem State.slbAdvance_params : (s.slbAdvance).params = s.params := rfl
@[simp] theorem State.slbAdvance_len : (s.slbAdvance).len = s.len := rfl
@[simp] theorem State.slbAdvance_bps : (s.slbAdvance).bps = s.bps := rfl
@[simp] theorem State.slbAdvance_planes : (s.slbAdvance).planes = s.planes := rfl
@[simp] theorem State.slbAdvance_bpl : (s.slbAdvance).bpl = s.bpl := rfl
@[simp] theorem State.slbAdvance_width : (s.slbAdvance).width = s.width := rfl
@[simp] theorem State.slbAdvance_doneIe : (s.slbAdvance).doneIe = s.doneIe := rfl
@[simp] theorem State.slbAdvance_errIe : (s.slbAdvance).errIe = s.errIe := rfl
@[simp] theorem State.slbAdvance_herrIe : (s.slbAdvance).herrIe = s.herrIe := rfl
@[simp] theorem State.slbAdvance_slbAddr : (s.slbAdvance).slbAddr = s.slbAddr + 1 := rfl
@[simp] theorem State.slbAdvance_done : (s.slbAdvance).done = s.done := rfl
@[simp] theorem State.slbAdvance_err : (s.slbAdvance).err = s.err := rfl
@[simp] theorem State.slbAdvance_errcode : (s.slbAdvance).errcode = s.errcode := rfl
@[simp] theorem State.slbAdvance_herr : (s.slbAdvance).herr = s.herr := rfl
@[simp] theorem State.slbAdvance_inCount : (s.slbAdvance).inCount = s.inCount := rfl
@[simp] theorem State.slbAdvance_outCount : (s.slbAdvance).outCount = s.outCount := rfl
@[simp] theorem State.slbAdvance_slbCount : (s.slbAdvance).slbCount = s.slbCount := rfl
@[simp] theorem State.slbAdvance_idxCount : (s.slbAdvance).idxCount = s.idxCount := rfl
@[simp] theorem State.slbAdvance_slb : (s.slbAdvance).slb = s.slb := rfl
@[simp] theorem State.slbAdvance_inFifo : (s.slbAdvance).inFifo = s.inFifo := rfl
@[simp] theorem State.slbAdvance_eos : (s.slbAdvance).eos = s.eos := rfl
@[simp] theorem State.slbAdvance_outFifo : (s.slbAdvance).outFifo = s.outFifo := rfl
@[simp] theorem State.slbAdvance_idxFifo : (s.slbAdvance).idxFifo = s.idxFifo := rfl
@[simp] theorem State.slbAdvance_phase : (s.slbAdvance).phase = s.phase := rfl
@[simp] theorem State.slbAdvance_op : (s.slbAdvance).op = s.op := rfl
@[simp] theorem State.slbAdvance_lN : (s.slbAdvance).lN = s.lN := rfl
@[simp] theorem State.slbAdvance_lLen : (s.slbAdvance).lLen = s.lLen := rfl
@[simp] theorem State.slbAdvance_lPad : (s.slbAdvance).lPad = s.lPad := rfl
@[simp] theorem State.slbAdvance_lBps : (s.slbAdvance).lBps = s.lBps := rfl
@[simp] theorem State.slbAdvance_lPlanes : (s.slbAdvance).lPlanes = s.lPlanes := rfl
@[simp] theorem State.slbAdvance_lBpl : (s.slbAdvance).lBpl = s.lBpl := rfl
@[simp] theorem State.slbAdvance_lWidth : (s.slbAdvance).lWidth = s.lWidth := rfl
@[simp] theorem State.slbAdvance_dWait : (s.slbAdvance).dWait = s.dWait := rfl
@[simp] theorem State.slbAdvance_dCnt : (s.slbAdvance).dCnt = s.dCnt := rfl
@[simp] theorem State.slbAdvance_cHave : (s.slbAdvance).cHave = s.cHave := rfl
@[simp] theorem State.slbAdvance_cVal : (s.slbAdvance).cVal = s.cVal := rfl
@[simp] theorem State.slbAdvance_cCnt : (s.slbAdvance).cCnt = s.cCnt := rfl
@[simp] theorem State.slbAdvance_cPadDone : (s.slbAdvance).cPadDone = s.cPadDone := rfl
@[simp] theorem State.slbAdvance_rdata : (s.slbAdvance).rdata = s.rdata := rfl
@[simp] theorem State.slbAdvance_events : (s.slbAdvance).events = s.events := rfl

/-! ## clearRun -/

@[simp] theorem State.clearRun_params : (s.clearRun).params = s.params := rfl
@[simp] theorem State.clearRun_len : (s.clearRun).len = s.len := rfl
@[simp] theorem State.clearRun_bps : (s.clearRun).bps = s.bps := rfl
@[simp] theorem State.clearRun_planes : (s.clearRun).planes = s.planes := rfl
@[simp] theorem State.clearRun_bpl : (s.clearRun).bpl = s.bpl := rfl
@[simp] theorem State.clearRun_width : (s.clearRun).width = s.width := rfl
@[simp] theorem State.clearRun_doneIe : (s.clearRun).doneIe = s.doneIe := rfl
@[simp] theorem State.clearRun_errIe : (s.clearRun).errIe = s.errIe := rfl
@[simp] theorem State.clearRun_herrIe : (s.clearRun).herrIe = s.herrIe := rfl
@[simp] theorem State.clearRun_slbAddr : (s.clearRun).slbAddr = s.slbAddr := rfl
@[simp] theorem State.clearRun_done : (s.clearRun).done = s.done := rfl
@[simp] theorem State.clearRun_err : (s.clearRun).err = s.err := rfl
@[simp] theorem State.clearRun_errcode : (s.clearRun).errcode = s.errcode := rfl
@[simp] theorem State.clearRun_herr : (s.clearRun).herr = s.herr := rfl
@[simp] theorem State.clearRun_inCount : (s.clearRun).inCount = s.inCount := rfl
@[simp] theorem State.clearRun_outCount : (s.clearRun).outCount = s.outCount := rfl
@[simp] theorem State.clearRun_slbCount : (s.clearRun).slbCount = s.slbCount := rfl
@[simp] theorem State.clearRun_idxCount : (s.clearRun).idxCount = s.idxCount := rfl
@[simp] theorem State.clearRun_slb : (s.clearRun).slb = s.slb := rfl
@[simp] theorem State.clearRun_inFifo : (s.clearRun).inFifo = s.inFifo := rfl
@[simp] theorem State.clearRun_eos : (s.clearRun).eos = s.eos := rfl
@[simp] theorem State.clearRun_outFifo : (s.clearRun).outFifo = s.outFifo := rfl
@[simp] theorem State.clearRun_idxFifo : (s.clearRun).idxFifo = s.idxFifo := rfl
@[simp] theorem State.clearRun_phase : (s.clearRun).phase = s.phase := rfl
@[simp] theorem State.clearRun_op : (s.clearRun).op = s.op := rfl
@[simp] theorem State.clearRun_lN : (s.clearRun).lN = s.lN := rfl
@[simp] theorem State.clearRun_lLen : (s.clearRun).lLen = s.lLen := rfl
@[simp] theorem State.clearRun_lPad : (s.clearRun).lPad = s.lPad := rfl
@[simp] theorem State.clearRun_lBps : (s.clearRun).lBps = s.lBps := rfl
@[simp] theorem State.clearRun_lPlanes : (s.clearRun).lPlanes = s.lPlanes := rfl
@[simp] theorem State.clearRun_lBpl : (s.clearRun).lBpl = s.lBpl := rfl
@[simp] theorem State.clearRun_lWidth : (s.clearRun).lWidth = s.lWidth := rfl
@[simp] theorem State.clearRun_dWait : (s.clearRun).dWait = false := rfl
@[simp] theorem State.clearRun_dCnt : (s.clearRun).dCnt = 0 := rfl
@[simp] theorem State.clearRun_cHave : (s.clearRun).cHave = false := rfl
@[simp] theorem State.clearRun_cVal : (s.clearRun).cVal = 0 := rfl
@[simp] theorem State.clearRun_cCnt : (s.clearRun).cCnt = 0 := rfl
@[simp] theorem State.clearRun_cPadDone : (s.clearRun).cPadDone = false := rfl
@[simp] theorem State.clearRun_rdata : (s.clearRun).rdata = s.rdata := rfl
@[simp] theorem State.clearRun_events : (s.clearRun).events = s.events := rfl

/-! ## raiseError -/

@[simp] theorem State.raiseError_params (c : ErrorCode) : (s.raiseError c).params = s.params := rfl
@[simp] theorem State.raiseError_len (c : ErrorCode) : (s.raiseError c).len = s.len := rfl
@[simp] theorem State.raiseError_bps (c : ErrorCode) : (s.raiseError c).bps = s.bps := rfl
@[simp] theorem State.raiseError_planes (c : ErrorCode) : (s.raiseError c).planes = s.planes := rfl
@[simp] theorem State.raiseError_bpl (c : ErrorCode) : (s.raiseError c).bpl = s.bpl := rfl
@[simp] theorem State.raiseError_width (c : ErrorCode) : (s.raiseError c).width = s.width := rfl
@[simp] theorem State.raiseError_doneIe (c : ErrorCode) : (s.raiseError c).doneIe = s.doneIe := rfl
@[simp] theorem State.raiseError_errIe (c : ErrorCode) : (s.raiseError c).errIe = s.errIe := rfl
@[simp] theorem State.raiseError_herrIe (c : ErrorCode) : (s.raiseError c).herrIe = s.herrIe := rfl
@[simp] theorem State.raiseError_slbAddr (c : ErrorCode) : (s.raiseError c).slbAddr = s.slbAddr := rfl
@[simp] theorem State.raiseError_done (c : ErrorCode) : (s.raiseError c).done = s.done := rfl
@[simp] theorem State.raiseError_err (c : ErrorCode) : (s.raiseError c).err = true := rfl
@[simp] theorem State.raiseError_errcode (c : ErrorCode) : (s.raiseError c).errcode = c := rfl
@[simp] theorem State.raiseError_herr (c : ErrorCode) : (s.raiseError c).herr = s.herr := rfl
@[simp] theorem State.raiseError_inCount (c : ErrorCode) : (s.raiseError c).inCount = s.inCount := rfl
@[simp] theorem State.raiseError_outCount (c : ErrorCode) : (s.raiseError c).outCount = s.outCount := rfl
@[simp] theorem State.raiseError_slbCount (c : ErrorCode) : (s.raiseError c).slbCount = s.slbCount := rfl
@[simp] theorem State.raiseError_idxCount (c : ErrorCode) : (s.raiseError c).idxCount = s.idxCount := rfl
@[simp] theorem State.raiseError_slb (c : ErrorCode) : (s.raiseError c).slb = s.slb := rfl
@[simp] theorem State.raiseError_inFifo (c : ErrorCode) : (s.raiseError c).inFifo = s.inFifo := rfl
@[simp] theorem State.raiseError_eos (c : ErrorCode) : (s.raiseError c).eos = s.eos := rfl
@[simp] theorem State.raiseError_outFifo (c : ErrorCode) : (s.raiseError c).outFifo = s.outFifo := rfl
@[simp] theorem State.raiseError_idxFifo (c : ErrorCode) : (s.raiseError c).idxFifo = s.idxFifo := rfl
@[simp] theorem State.raiseError_phase (c : ErrorCode) : (s.raiseError c).phase = .idle := rfl
@[simp] theorem State.raiseError_op (c : ErrorCode) : (s.raiseError c).op = s.op := rfl
@[simp] theorem State.raiseError_lN (c : ErrorCode) : (s.raiseError c).lN = s.lN := rfl
@[simp] theorem State.raiseError_lLen (c : ErrorCode) : (s.raiseError c).lLen = s.lLen := rfl
@[simp] theorem State.raiseError_lPad (c : ErrorCode) : (s.raiseError c).lPad = s.lPad := rfl
@[simp] theorem State.raiseError_lBps (c : ErrorCode) : (s.raiseError c).lBps = s.lBps := rfl
@[simp] theorem State.raiseError_lPlanes (c : ErrorCode) : (s.raiseError c).lPlanes = s.lPlanes := rfl
@[simp] theorem State.raiseError_lBpl (c : ErrorCode) : (s.raiseError c).lBpl = s.lBpl := rfl
@[simp] theorem State.raiseError_lWidth (c : ErrorCode) : (s.raiseError c).lWidth = s.lWidth := rfl
@[simp] theorem State.raiseError_dWait (c : ErrorCode) : (s.raiseError c).dWait = false := rfl
@[simp] theorem State.raiseError_dCnt (c : ErrorCode) : (s.raiseError c).dCnt = 0 := rfl
@[simp] theorem State.raiseError_cHave (c : ErrorCode) : (s.raiseError c).cHave = false := rfl
@[simp] theorem State.raiseError_cVal (c : ErrorCode) : (s.raiseError c).cVal = 0 := rfl
@[simp] theorem State.raiseError_cCnt (c : ErrorCode) : (s.raiseError c).cCnt = 0 := rfl
@[simp] theorem State.raiseError_cPadDone (c : ErrorCode) : (s.raiseError c).cPadDone = false := rfl
@[simp] theorem State.raiseError_rdata (c : ErrorCode) : (s.raiseError c).rdata = s.rdata := rfl
@[simp] theorem State.raiseError_events (c : ErrorCode) : (s.raiseError c).events = s.events := rfl

/-! ## complete -/

@[simp] theorem State.complete_params : (s.complete).params = s.params := rfl
@[simp] theorem State.complete_len : (s.complete).len = s.len := rfl
@[simp] theorem State.complete_bps : (s.complete).bps = s.bps := rfl
@[simp] theorem State.complete_planes : (s.complete).planes = s.planes := rfl
@[simp] theorem State.complete_bpl : (s.complete).bpl = s.bpl := rfl
@[simp] theorem State.complete_width : (s.complete).width = s.width := rfl
@[simp] theorem State.complete_doneIe : (s.complete).doneIe = s.doneIe := rfl
@[simp] theorem State.complete_errIe : (s.complete).errIe = s.errIe := rfl
@[simp] theorem State.complete_herrIe : (s.complete).herrIe = s.herrIe := rfl
@[simp] theorem State.complete_slbAddr : (s.complete).slbAddr = s.slbAddr := rfl
@[simp] theorem State.complete_done : (s.complete).done = true := rfl
@[simp] theorem State.complete_err : (s.complete).err = s.err := rfl
@[simp] theorem State.complete_errcode : (s.complete).errcode = s.errcode := rfl
@[simp] theorem State.complete_herr : (s.complete).herr = s.herr := rfl
@[simp] theorem State.complete_inCount : (s.complete).inCount = s.inCount := rfl
@[simp] theorem State.complete_outCount : (s.complete).outCount = s.outCount := rfl
@[simp] theorem State.complete_slbCount : (s.complete).slbCount = s.slbCount := rfl
@[simp] theorem State.complete_idxCount : (s.complete).idxCount = s.idxCount := rfl
@[simp] theorem State.complete_slb : (s.complete).slb = s.slb := rfl
@[simp] theorem State.complete_inFifo : (s.complete).inFifo = s.inFifo := rfl
@[simp] theorem State.complete_eos : (s.complete).eos = s.eos := rfl
@[simp] theorem State.complete_outFifo : (s.complete).outFifo = s.outFifo := rfl
@[simp] theorem State.complete_idxFifo : (s.complete).idxFifo = s.idxFifo := rfl
@[simp] theorem State.complete_phase : (s.complete).phase = .idle := rfl
@[simp] theorem State.complete_op : (s.complete).op = s.op := rfl
@[simp] theorem State.complete_lN : (s.complete).lN = s.lN := rfl
@[simp] theorem State.complete_lLen : (s.complete).lLen = s.lLen := rfl
@[simp] theorem State.complete_lPad : (s.complete).lPad = s.lPad := rfl
@[simp] theorem State.complete_lBps : (s.complete).lBps = s.lBps := rfl
@[simp] theorem State.complete_lPlanes : (s.complete).lPlanes = s.lPlanes := rfl
@[simp] theorem State.complete_lBpl : (s.complete).lBpl = s.lBpl := rfl
@[simp] theorem State.complete_lWidth : (s.complete).lWidth = s.lWidth := rfl
@[simp] theorem State.complete_dWait : (s.complete).dWait = false := rfl
@[simp] theorem State.complete_dCnt : (s.complete).dCnt = 0 := rfl
@[simp] theorem State.complete_cHave : (s.complete).cHave = false := rfl
@[simp] theorem State.complete_cVal : (s.complete).cVal = 0 := rfl
@[simp] theorem State.complete_cCnt : (s.complete).cCnt = 0 := rfl
@[simp] theorem State.complete_cPadDone : (s.complete).cPadDone = false := rfl
@[simp] theorem State.complete_rdata : (s.complete).rdata = s.rdata := rfl
@[simp] theorem State.complete_events : (s.complete).events = s.events := rfl

/-! ## acknowledge -/

@[simp] theorem State.acknowledge_params (d : Word) : (s.acknowledge d).params = s.params := rfl
@[simp] theorem State.acknowledge_len (d : Word) : (s.acknowledge d).len = s.len := rfl
@[simp] theorem State.acknowledge_bps (d : Word) : (s.acknowledge d).bps = s.bps := rfl
@[simp] theorem State.acknowledge_planes (d : Word) : (s.acknowledge d).planes = s.planes := rfl
@[simp] theorem State.acknowledge_bpl (d : Word) : (s.acknowledge d).bpl = s.bpl := rfl
@[simp] theorem State.acknowledge_width (d : Word) : (s.acknowledge d).width = s.width := rfl
@[simp] theorem State.acknowledge_doneIe (d : Word) : (s.acknowledge d).doneIe = s.doneIe := rfl
@[simp] theorem State.acknowledge_errIe (d : Word) : (s.acknowledge d).errIe = s.errIe := rfl
@[simp] theorem State.acknowledge_herrIe (d : Word) : (s.acknowledge d).herrIe = s.herrIe := rfl
@[simp] theorem State.acknowledge_slbAddr (d : Word) : (s.acknowledge d).slbAddr = s.slbAddr := rfl
@[simp] theorem State.acknowledge_done (d : Word) : (s.acknowledge d).done = (s.done && !d.getLsbD 1) := rfl
@[simp] theorem State.acknowledge_err (d : Word) : (s.acknowledge d).err = (s.err && !d.getLsbD 2) := rfl
@[simp] theorem State.acknowledge_errcode (d : Word) : (s.acknowledge d).errcode = if d.getLsbD 2 then .none else s.errcode := rfl
@[simp] theorem State.acknowledge_herr (d : Word) : (s.acknowledge d).herr = (s.herr && !d.getLsbD 3) := rfl
@[simp] theorem State.acknowledge_inCount (d : Word) : (s.acknowledge d).inCount = s.inCount := rfl
@[simp] theorem State.acknowledge_outCount (d : Word) : (s.acknowledge d).outCount = s.outCount := rfl
@[simp] theorem State.acknowledge_slbCount (d : Word) : (s.acknowledge d).slbCount = s.slbCount := rfl
@[simp] theorem State.acknowledge_idxCount (d : Word) : (s.acknowledge d).idxCount = s.idxCount := rfl
@[simp] theorem State.acknowledge_slb (d : Word) : (s.acknowledge d).slb = s.slb := rfl
@[simp] theorem State.acknowledge_inFifo (d : Word) : (s.acknowledge d).inFifo = s.inFifo := rfl
@[simp] theorem State.acknowledge_eos (d : Word) : (s.acknowledge d).eos = s.eos := rfl
@[simp] theorem State.acknowledge_outFifo (d : Word) : (s.acknowledge d).outFifo = s.outFifo := rfl
@[simp] theorem State.acknowledge_idxFifo (d : Word) : (s.acknowledge d).idxFifo = s.idxFifo := rfl
@[simp] theorem State.acknowledge_phase (d : Word) : (s.acknowledge d).phase = s.phase := rfl
@[simp] theorem State.acknowledge_op (d : Word) : (s.acknowledge d).op = s.op := rfl
@[simp] theorem State.acknowledge_lN (d : Word) : (s.acknowledge d).lN = s.lN := rfl
@[simp] theorem State.acknowledge_lLen (d : Word) : (s.acknowledge d).lLen = s.lLen := rfl
@[simp] theorem State.acknowledge_lPad (d : Word) : (s.acknowledge d).lPad = s.lPad := rfl
@[simp] theorem State.acknowledge_lBps (d : Word) : (s.acknowledge d).lBps = s.lBps := rfl
@[simp] theorem State.acknowledge_lPlanes (d : Word) : (s.acknowledge d).lPlanes = s.lPlanes := rfl
@[simp] theorem State.acknowledge_lBpl (d : Word) : (s.acknowledge d).lBpl = s.lBpl := rfl
@[simp] theorem State.acknowledge_lWidth (d : Word) : (s.acknowledge d).lWidth = s.lWidth := rfl
@[simp] theorem State.acknowledge_dWait (d : Word) : (s.acknowledge d).dWait = s.dWait := rfl
@[simp] theorem State.acknowledge_dCnt (d : Word) : (s.acknowledge d).dCnt = s.dCnt := rfl
@[simp] theorem State.acknowledge_cHave (d : Word) : (s.acknowledge d).cHave = s.cHave := rfl
@[simp] theorem State.acknowledge_cVal (d : Word) : (s.acknowledge d).cVal = s.cVal := rfl
@[simp] theorem State.acknowledge_cCnt (d : Word) : (s.acknowledge d).cCnt = s.cCnt := rfl
@[simp] theorem State.acknowledge_cPadDone (d : Word) : (s.acknowledge d).cPadDone = s.cPadDone := rfl
@[simp] theorem State.acknowledge_rdata (d : Word) : (s.acknowledge d).rdata = s.rdata := rfl
@[simp] theorem State.acknowledge_events (d : Word) : (s.acknowledge d).events = s.events := rfl

/-! ## raiseIllegal -/

@[simp] theorem State.raiseIllegal_params : (s.raiseIllegal).params = s.params := rfl
@[simp] theorem State.raiseIllegal_len : (s.raiseIllegal).len = s.len := rfl
@[simp] theorem State.raiseIllegal_bps : (s.raiseIllegal).bps = s.bps := rfl
@[simp] theorem State.raiseIllegal_planes : (s.raiseIllegal).planes = s.planes := rfl
@[simp] theorem State.raiseIllegal_bpl : (s.raiseIllegal).bpl = s.bpl := rfl
@[simp] theorem State.raiseIllegal_width : (s.raiseIllegal).width = s.width := rfl
@[simp] theorem State.raiseIllegal_doneIe : (s.raiseIllegal).doneIe = s.doneIe := rfl
@[simp] theorem State.raiseIllegal_errIe : (s.raiseIllegal).errIe = s.errIe := rfl
@[simp] theorem State.raiseIllegal_herrIe : (s.raiseIllegal).herrIe = s.herrIe := rfl
@[simp] theorem State.raiseIllegal_slbAddr : (s.raiseIllegal).slbAddr = s.slbAddr := rfl
@[simp] theorem State.raiseIllegal_done : (s.raiseIllegal).done = false := rfl
@[simp] theorem State.raiseIllegal_err : (s.raiseIllegal).err = true := rfl
@[simp] theorem State.raiseIllegal_errcode : (s.raiseIllegal).errcode = .illegalCmd := rfl
@[simp] theorem State.raiseIllegal_herr : (s.raiseIllegal).herr = s.herr := rfl
@[simp] theorem State.raiseIllegal_inCount : (s.raiseIllegal).inCount = s.inCount := rfl
@[simp] theorem State.raiseIllegal_outCount : (s.raiseIllegal).outCount = s.outCount := rfl
@[simp] theorem State.raiseIllegal_slbCount : (s.raiseIllegal).slbCount = s.slbCount := rfl
@[simp] theorem State.raiseIllegal_idxCount : (s.raiseIllegal).idxCount = s.idxCount := rfl
@[simp] theorem State.raiseIllegal_slb : (s.raiseIllegal).slb = s.slb := rfl
@[simp] theorem State.raiseIllegal_inFifo : (s.raiseIllegal).inFifo = s.inFifo := rfl
@[simp] theorem State.raiseIllegal_eos : (s.raiseIllegal).eos = s.eos := rfl
@[simp] theorem State.raiseIllegal_outFifo : (s.raiseIllegal).outFifo = s.outFifo := rfl
@[simp] theorem State.raiseIllegal_idxFifo : (s.raiseIllegal).idxFifo = s.idxFifo := rfl
@[simp] theorem State.raiseIllegal_phase : (s.raiseIllegal).phase = s.phase := rfl
@[simp] theorem State.raiseIllegal_op : (s.raiseIllegal).op = s.op := rfl
@[simp] theorem State.raiseIllegal_lN : (s.raiseIllegal).lN = s.lN := rfl
@[simp] theorem State.raiseIllegal_lLen : (s.raiseIllegal).lLen = s.lLen := rfl
@[simp] theorem State.raiseIllegal_lPad : (s.raiseIllegal).lPad = s.lPad := rfl
@[simp] theorem State.raiseIllegal_lBps : (s.raiseIllegal).lBps = s.lBps := rfl
@[simp] theorem State.raiseIllegal_lPlanes : (s.raiseIllegal).lPlanes = s.lPlanes := rfl
@[simp] theorem State.raiseIllegal_lBpl : (s.raiseIllegal).lBpl = s.lBpl := rfl
@[simp] theorem State.raiseIllegal_lWidth : (s.raiseIllegal).lWidth = s.lWidth := rfl
@[simp] theorem State.raiseIllegal_dWait : (s.raiseIllegal).dWait = s.dWait := rfl
@[simp] theorem State.raiseIllegal_dCnt : (s.raiseIllegal).dCnt = s.dCnt := rfl
@[simp] theorem State.raiseIllegal_cHave : (s.raiseIllegal).cHave = s.cHave := rfl
@[simp] theorem State.raiseIllegal_cVal : (s.raiseIllegal).cVal = s.cVal := rfl
@[simp] theorem State.raiseIllegal_cCnt : (s.raiseIllegal).cCnt = s.cCnt := rfl
@[simp] theorem State.raiseIllegal_cPadDone : (s.raiseIllegal).cPadDone = s.cPadDone := rfl
@[simp] theorem State.raiseIllegal_rdata : (s.raiseIllegal).rdata = s.rdata := rfl
@[simp] theorem State.raiseIllegal_events : (s.raiseIllegal).events = s.events := rfl

/-! ## resetBlock -/

@[simp] theorem State.resetBlock_params : (s.resetBlock).params = s.params := rfl
@[simp] theorem State.resetBlock_len : (s.resetBlock).len = 0 := rfl
@[simp] theorem State.resetBlock_bps : (s.resetBlock).bps = 0 := rfl
@[simp] theorem State.resetBlock_planes : (s.resetBlock).planes = 0 := rfl
@[simp] theorem State.resetBlock_bpl : (s.resetBlock).bpl = 0 := rfl
@[simp] theorem State.resetBlock_width : (s.resetBlock).width = 0 := rfl
@[simp] theorem State.resetBlock_doneIe : (s.resetBlock).doneIe = false := rfl
@[simp] theorem State.resetBlock_errIe : (s.resetBlock).errIe = false := rfl
@[simp] theorem State.resetBlock_herrIe : (s.resetBlock).herrIe = false := rfl
@[simp] theorem State.resetBlock_slbAddr : (s.resetBlock).slbAddr = 0 := rfl
@[simp] theorem State.resetBlock_done : (s.resetBlock).done = false := rfl
@[simp] theorem State.resetBlock_err : (s.resetBlock).err = false := rfl
@[simp] theorem State.resetBlock_errcode : (s.resetBlock).errcode = .none := rfl
@[simp] theorem State.resetBlock_herr : (s.resetBlock).herr = false := rfl
@[simp] theorem State.resetBlock_inCount : (s.resetBlock).inCount = 0 := rfl
@[simp] theorem State.resetBlock_outCount : (s.resetBlock).outCount = 0 := rfl
@[simp] theorem State.resetBlock_slbCount : (s.resetBlock).slbCount = 0 := rfl
@[simp] theorem State.resetBlock_idxCount : (s.resetBlock).idxCount = 0 := rfl
@[simp] theorem State.resetBlock_slb : (s.resetBlock).slb = s.slb := rfl
@[simp] theorem State.resetBlock_inFifo : (s.resetBlock).inFifo = [] := rfl
@[simp] theorem State.resetBlock_eos : (s.resetBlock).eos = false := rfl
@[simp] theorem State.resetBlock_outFifo : (s.resetBlock).outFifo = [] := rfl
@[simp] theorem State.resetBlock_idxFifo : (s.resetBlock).idxFifo = [] := rfl
@[simp] theorem State.resetBlock_phase : (s.resetBlock).phase = .idle := rfl
@[simp] theorem State.resetBlock_op : (s.resetBlock).op = s.op := rfl
@[simp] theorem State.resetBlock_lN : (s.resetBlock).lN = s.lN := rfl
@[simp] theorem State.resetBlock_lLen : (s.resetBlock).lLen = s.lLen := rfl
@[simp] theorem State.resetBlock_lPad : (s.resetBlock).lPad = s.lPad := rfl
@[simp] theorem State.resetBlock_lBps : (s.resetBlock).lBps = s.lBps := rfl
@[simp] theorem State.resetBlock_lPlanes : (s.resetBlock).lPlanes = s.lPlanes := rfl
@[simp] theorem State.resetBlock_lBpl : (s.resetBlock).lBpl = s.lBpl := rfl
@[simp] theorem State.resetBlock_lWidth : (s.resetBlock).lWidth = s.lWidth := rfl
@[simp] theorem State.resetBlock_dWait : (s.resetBlock).dWait = false := rfl
@[simp] theorem State.resetBlock_dCnt : (s.resetBlock).dCnt = 0 := rfl
@[simp] theorem State.resetBlock_cHave : (s.resetBlock).cHave = false := rfl
@[simp] theorem State.resetBlock_cVal : (s.resetBlock).cVal = 0 := rfl
@[simp] theorem State.resetBlock_cCnt : (s.resetBlock).cCnt = 0 := rfl
@[simp] theorem State.resetBlock_cPadDone : (s.resetBlock).cPadDone = false := rfl
@[simp] theorem State.resetBlock_rdata : (s.resetBlock).rdata = s.rdata := rfl
@[simp] theorem State.resetBlock_events : (s.resetBlock).events = s.events := rfl

/-! ## writeGeom -/

@[simp] theorem State.writeGeom_params (d : Word) : (s.writeGeom d).params = s.params := rfl
@[simp] theorem State.writeGeom_len (d : Word) : (s.writeGeom d).len = s.len := rfl
@[simp] theorem State.writeGeom_bps (d : Word) : (s.writeGeom d).bps = d.extractLsb' 0 4 := rfl
@[simp] theorem State.writeGeom_planes (d : Word) : (s.writeGeom d).planes = d.extractLsb' 4 4 := rfl
@[simp] theorem State.writeGeom_bpl (d : Word) : (s.writeGeom d).bpl = d.extractLsb' 16 16 := rfl
@[simp] theorem State.writeGeom_width (d : Word) : (s.writeGeom d).width = s.width := rfl
@[simp] theorem State.writeGeom_doneIe (d : Word) : (s.writeGeom d).doneIe = s.doneIe := rfl
@[simp] theorem State.writeGeom_errIe (d : Word) : (s.writeGeom d).errIe = s.errIe := rfl
@[simp] theorem State.writeGeom_herrIe (d : Word) : (s.writeGeom d).herrIe = s.herrIe := rfl
@[simp] theorem State.writeGeom_slbAddr (d : Word) : (s.writeGeom d).slbAddr = s.slbAddr := rfl
@[simp] theorem State.writeGeom_done (d : Word) : (s.writeGeom d).done = s.done := rfl
@[simp] theorem State.writeGeom_err (d : Word) : (s.writeGeom d).err = s.err := rfl
@[simp] theorem State.writeGeom_errcode (d : Word) : (s.writeGeom d).errcode = s.errcode := rfl
@[simp] theorem State.writeGeom_herr (d : Word) : (s.writeGeom d).herr = s.herr := rfl
@[simp] theorem State.writeGeom_inCount (d : Word) : (s.writeGeom d).inCount = s.inCount := rfl
@[simp] theorem State.writeGeom_outCount (d : Word) : (s.writeGeom d).outCount = s.outCount := rfl
@[simp] theorem State.writeGeom_slbCount (d : Word) : (s.writeGeom d).slbCount = s.slbCount := rfl
@[simp] theorem State.writeGeom_idxCount (d : Word) : (s.writeGeom d).idxCount = s.idxCount := rfl
@[simp] theorem State.writeGeom_slb (d : Word) : (s.writeGeom d).slb = s.slb := rfl
@[simp] theorem State.writeGeom_inFifo (d : Word) : (s.writeGeom d).inFifo = s.inFifo := rfl
@[simp] theorem State.writeGeom_eos (d : Word) : (s.writeGeom d).eos = s.eos := rfl
@[simp] theorem State.writeGeom_outFifo (d : Word) : (s.writeGeom d).outFifo = s.outFifo := rfl
@[simp] theorem State.writeGeom_idxFifo (d : Word) : (s.writeGeom d).idxFifo = s.idxFifo := rfl
@[simp] theorem State.writeGeom_phase (d : Word) : (s.writeGeom d).phase = s.phase := rfl
@[simp] theorem State.writeGeom_op (d : Word) : (s.writeGeom d).op = s.op := rfl
@[simp] theorem State.writeGeom_lN (d : Word) : (s.writeGeom d).lN = s.lN := rfl
@[simp] theorem State.writeGeom_lLen (d : Word) : (s.writeGeom d).lLen = s.lLen := rfl
@[simp] theorem State.writeGeom_lPad (d : Word) : (s.writeGeom d).lPad = s.lPad := rfl
@[simp] theorem State.writeGeom_lBps (d : Word) : (s.writeGeom d).lBps = s.lBps := rfl
@[simp] theorem State.writeGeom_lPlanes (d : Word) : (s.writeGeom d).lPlanes = s.lPlanes := rfl
@[simp] theorem State.writeGeom_lBpl (d : Word) : (s.writeGeom d).lBpl = s.lBpl := rfl
@[simp] theorem State.writeGeom_lWidth (d : Word) : (s.writeGeom d).lWidth = s.lWidth := rfl
@[simp] theorem State.writeGeom_dWait (d : Word) : (s.writeGeom d).dWait = s.dWait := rfl
@[simp] theorem State.writeGeom_dCnt (d : Word) : (s.writeGeom d).dCnt = s.dCnt := rfl
@[simp] theorem State.writeGeom_cHave (d : Word) : (s.writeGeom d).cHave = s.cHave := rfl
@[simp] theorem State.writeGeom_cVal (d : Word) : (s.writeGeom d).cVal = s.cVal := rfl
@[simp] theorem State.writeGeom_cCnt (d : Word) : (s.writeGeom d).cCnt = s.cCnt := rfl
@[simp] theorem State.writeGeom_cPadDone (d : Word) : (s.writeGeom d).cPadDone = s.cPadDone := rfl
@[simp] theorem State.writeGeom_rdata (d : Word) : (s.writeGeom d).rdata = s.rdata := rfl
@[simp] theorem State.writeGeom_events (d : Word) : (s.writeGeom d).events = s.events := rfl

/-! ## writeIrqEn -/

@[simp] theorem State.writeIrqEn_params (d : Word) : (s.writeIrqEn d).params = s.params := rfl
@[simp] theorem State.writeIrqEn_len (d : Word) : (s.writeIrqEn d).len = s.len := rfl
@[simp] theorem State.writeIrqEn_bps (d : Word) : (s.writeIrqEn d).bps = s.bps := rfl
@[simp] theorem State.writeIrqEn_planes (d : Word) : (s.writeIrqEn d).planes = s.planes := rfl
@[simp] theorem State.writeIrqEn_bpl (d : Word) : (s.writeIrqEn d).bpl = s.bpl := rfl
@[simp] theorem State.writeIrqEn_width (d : Word) : (s.writeIrqEn d).width = s.width := rfl
@[simp] theorem State.writeIrqEn_doneIe (d : Word) : (s.writeIrqEn d).doneIe = d.getLsbD 1 := rfl
@[simp] theorem State.writeIrqEn_errIe (d : Word) : (s.writeIrqEn d).errIe = d.getLsbD 2 := rfl
@[simp] theorem State.writeIrqEn_herrIe (d : Word) : (s.writeIrqEn d).herrIe = d.getLsbD 3 := rfl
@[simp] theorem State.writeIrqEn_slbAddr (d : Word) : (s.writeIrqEn d).slbAddr = s.slbAddr := rfl
@[simp] theorem State.writeIrqEn_done (d : Word) : (s.writeIrqEn d).done = s.done := rfl
@[simp] theorem State.writeIrqEn_err (d : Word) : (s.writeIrqEn d).err = s.err := rfl
@[simp] theorem State.writeIrqEn_errcode (d : Word) : (s.writeIrqEn d).errcode = s.errcode := rfl
@[simp] theorem State.writeIrqEn_herr (d : Word) : (s.writeIrqEn d).herr = s.herr := rfl
@[simp] theorem State.writeIrqEn_inCount (d : Word) : (s.writeIrqEn d).inCount = s.inCount := rfl
@[simp] theorem State.writeIrqEn_outCount (d : Word) : (s.writeIrqEn d).outCount = s.outCount := rfl
@[simp] theorem State.writeIrqEn_slbCount (d : Word) : (s.writeIrqEn d).slbCount = s.slbCount := rfl
@[simp] theorem State.writeIrqEn_idxCount (d : Word) : (s.writeIrqEn d).idxCount = s.idxCount := rfl
@[simp] theorem State.writeIrqEn_slb (d : Word) : (s.writeIrqEn d).slb = s.slb := rfl
@[simp] theorem State.writeIrqEn_inFifo (d : Word) : (s.writeIrqEn d).inFifo = s.inFifo := rfl
@[simp] theorem State.writeIrqEn_eos (d : Word) : (s.writeIrqEn d).eos = s.eos := rfl
@[simp] theorem State.writeIrqEn_outFifo (d : Word) : (s.writeIrqEn d).outFifo = s.outFifo := rfl
@[simp] theorem State.writeIrqEn_idxFifo (d : Word) : (s.writeIrqEn d).idxFifo = s.idxFifo := rfl
@[simp] theorem State.writeIrqEn_phase (d : Word) : (s.writeIrqEn d).phase = s.phase := rfl
@[simp] theorem State.writeIrqEn_op (d : Word) : (s.writeIrqEn d).op = s.op := rfl
@[simp] theorem State.writeIrqEn_lN (d : Word) : (s.writeIrqEn d).lN = s.lN := rfl
@[simp] theorem State.writeIrqEn_lLen (d : Word) : (s.writeIrqEn d).lLen = s.lLen := rfl
@[simp] theorem State.writeIrqEn_lPad (d : Word) : (s.writeIrqEn d).lPad = s.lPad := rfl
@[simp] theorem State.writeIrqEn_lBps (d : Word) : (s.writeIrqEn d).lBps = s.lBps := rfl
@[simp] theorem State.writeIrqEn_lPlanes (d : Word) : (s.writeIrqEn d).lPlanes = s.lPlanes := rfl
@[simp] theorem State.writeIrqEn_lBpl (d : Word) : (s.writeIrqEn d).lBpl = s.lBpl := rfl
@[simp] theorem State.writeIrqEn_lWidth (d : Word) : (s.writeIrqEn d).lWidth = s.lWidth := rfl
@[simp] theorem State.writeIrqEn_dWait (d : Word) : (s.writeIrqEn d).dWait = s.dWait := rfl
@[simp] theorem State.writeIrqEn_dCnt (d : Word) : (s.writeIrqEn d).dCnt = s.dCnt := rfl
@[simp] theorem State.writeIrqEn_cHave (d : Word) : (s.writeIrqEn d).cHave = s.cHave := rfl
@[simp] theorem State.writeIrqEn_cVal (d : Word) : (s.writeIrqEn d).cVal = s.cVal := rfl
@[simp] theorem State.writeIrqEn_cCnt (d : Word) : (s.writeIrqEn d).cCnt = s.cCnt := rfl
@[simp] theorem State.writeIrqEn_cPadDone (d : Word) : (s.writeIrqEn d).cPadDone = s.cPadDone := rfl
@[simp] theorem State.writeIrqEn_rdata (d : Word) : (s.writeIrqEn d).rdata = s.rdata := rfl
@[simp] theorem State.writeIrqEn_events (d : Word) : (s.writeIrqEn d).events = s.events := rfl

/-! ## enterUnp -/

@[simp] theorem State.enterUnp_params : (s.enterUnp).params = s.params := rfl
@[simp] theorem State.enterUnp_len : (s.enterUnp).len = s.len := rfl
@[simp] theorem State.enterUnp_bps : (s.enterUnp).bps = s.bps := rfl
@[simp] theorem State.enterUnp_planes : (s.enterUnp).planes = s.planes := rfl
@[simp] theorem State.enterUnp_bpl : (s.enterUnp).bpl = s.bpl := rfl
@[simp] theorem State.enterUnp_width : (s.enterUnp).width = s.width := rfl
@[simp] theorem State.enterUnp_doneIe : (s.enterUnp).doneIe = s.doneIe := rfl
@[simp] theorem State.enterUnp_errIe : (s.enterUnp).errIe = s.errIe := rfl
@[simp] theorem State.enterUnp_herrIe : (s.enterUnp).herrIe = s.herrIe := rfl
@[simp] theorem State.enterUnp_slbAddr : (s.enterUnp).slbAddr = s.slbAddr := rfl
@[simp] theorem State.enterUnp_done : (s.enterUnp).done = s.done := rfl
@[simp] theorem State.enterUnp_err : (s.enterUnp).err = s.err := rfl
@[simp] theorem State.enterUnp_errcode : (s.enterUnp).errcode = s.errcode := rfl
@[simp] theorem State.enterUnp_herr : (s.enterUnp).herr = s.herr := rfl
@[simp] theorem State.enterUnp_inCount : (s.enterUnp).inCount = s.inCount := rfl
@[simp] theorem State.enterUnp_outCount : (s.enterUnp).outCount = s.outCount := rfl
@[simp] theorem State.enterUnp_slbCount : (s.enterUnp).slbCount = s.slbCount := rfl
@[simp] theorem State.enterUnp_idxCount : (s.enterUnp).idxCount = s.idxCount := rfl
@[simp] theorem State.enterUnp_slb : (s.enterUnp).slb = s.slb := rfl
@[simp] theorem State.enterUnp_inFifo : (s.enterUnp).inFifo = s.inFifo := rfl
@[simp] theorem State.enterUnp_eos : (s.enterUnp).eos = s.eos := rfl
@[simp] theorem State.enterUnp_outFifo : (s.enterUnp).outFifo = s.outFifo := rfl
@[simp] theorem State.enterUnp_idxFifo : (s.enterUnp).idxFifo = s.idxFifo := rfl
@[simp] theorem State.enterUnp_phase : (s.enterUnp).phase = .unp := rfl
@[simp] theorem State.enterUnp_op : (s.enterUnp).op = s.op := rfl
@[simp] theorem State.enterUnp_lN : (s.enterUnp).lN = s.lN := rfl
@[simp] theorem State.enterUnp_lLen : (s.enterUnp).lLen = s.lLen := rfl
@[simp] theorem State.enterUnp_lPad : (s.enterUnp).lPad = s.lPad := rfl
@[simp] theorem State.enterUnp_lBps : (s.enterUnp).lBps = s.lBps := rfl
@[simp] theorem State.enterUnp_lPlanes : (s.enterUnp).lPlanes = s.lPlanes := rfl
@[simp] theorem State.enterUnp_lBpl : (s.enterUnp).lBpl = s.lBpl := rfl
@[simp] theorem State.enterUnp_lWidth : (s.enterUnp).lWidth = s.lWidth := rfl
@[simp] theorem State.enterUnp_dWait : (s.enterUnp).dWait = false := rfl
@[simp] theorem State.enterUnp_dCnt : (s.enterUnp).dCnt = 0 := rfl
@[simp] theorem State.enterUnp_cHave : (s.enterUnp).cHave = s.cHave := rfl
@[simp] theorem State.enterUnp_cVal : (s.enterUnp).cVal = s.cVal := rfl
@[simp] theorem State.enterUnp_cCnt : (s.enterUnp).cCnt = s.cCnt := rfl
@[simp] theorem State.enterUnp_cPadDone : (s.enterUnp).cPadDone = s.cPadDone := rfl
@[simp] theorem State.enterUnp_rdata : (s.enterUnp).rdata = s.rdata := rfl
@[simp] theorem State.enterUnp_events : (s.enterUnp).events = s.events := rfl

/-! ## clearAtStart -/

@[simp] theorem State.clearAtStart_params : (s.clearAtStart).params = s.params := rfl
@[simp] theorem State.clearAtStart_len : (s.clearAtStart).len = s.len := rfl
@[simp] theorem State.clearAtStart_bps : (s.clearAtStart).bps = s.bps := rfl
@[simp] theorem State.clearAtStart_planes : (s.clearAtStart).planes = s.planes := rfl
@[simp] theorem State.clearAtStart_bpl : (s.clearAtStart).bpl = s.bpl := rfl
@[simp] theorem State.clearAtStart_width : (s.clearAtStart).width = s.width := rfl
@[simp] theorem State.clearAtStart_doneIe : (s.clearAtStart).doneIe = s.doneIe := rfl
@[simp] theorem State.clearAtStart_errIe : (s.clearAtStart).errIe = s.errIe := rfl
@[simp] theorem State.clearAtStart_herrIe : (s.clearAtStart).herrIe = s.herrIe := rfl
@[simp] theorem State.clearAtStart_slbAddr : (s.clearAtStart).slbAddr = s.slbAddr := rfl
@[simp] theorem State.clearAtStart_done : (s.clearAtStart).done = false := rfl
@[simp] theorem State.clearAtStart_err : (s.clearAtStart).err = false := rfl
@[simp] theorem State.clearAtStart_errcode : (s.clearAtStart).errcode = .none := rfl
@[simp] theorem State.clearAtStart_herr : (s.clearAtStart).herr = s.herr := rfl
@[simp] theorem State.clearAtStart_inCount : (s.clearAtStart).inCount = 0 := rfl
@[simp] theorem State.clearAtStart_outCount : (s.clearAtStart).outCount = 0 := rfl
@[simp] theorem State.clearAtStart_slbCount : (s.clearAtStart).slbCount = 0 := rfl
@[simp] theorem State.clearAtStart_idxCount : (s.clearAtStart).idxCount = 0 := rfl
@[simp] theorem State.clearAtStart_slb : (s.clearAtStart).slb = s.slb := rfl
@[simp] theorem State.clearAtStart_inFifo : (s.clearAtStart).inFifo = s.inFifo := rfl
@[simp] theorem State.clearAtStart_eos : (s.clearAtStart).eos = s.eos := rfl
@[simp] theorem State.clearAtStart_outFifo : (s.clearAtStart).outFifo = s.outFifo := rfl
@[simp] theorem State.clearAtStart_idxFifo : (s.clearAtStart).idxFifo = s.idxFifo := rfl
@[simp] theorem State.clearAtStart_phase : (s.clearAtStart).phase = s.phase := rfl
@[simp] theorem State.clearAtStart_op : (s.clearAtStart).op = s.op := rfl
@[simp] theorem State.clearAtStart_lN : (s.clearAtStart).lN = s.lN := rfl
@[simp] theorem State.clearAtStart_lLen : (s.clearAtStart).lLen = s.lLen := rfl
@[simp] theorem State.clearAtStart_lPad : (s.clearAtStart).lPad = s.lPad := rfl
@[simp] theorem State.clearAtStart_lBps : (s.clearAtStart).lBps = s.lBps := rfl
@[simp] theorem State.clearAtStart_lPlanes : (s.clearAtStart).lPlanes = s.lPlanes := rfl
@[simp] theorem State.clearAtStart_lBpl : (s.clearAtStart).lBpl = s.lBpl := rfl
@[simp] theorem State.clearAtStart_lWidth : (s.clearAtStart).lWidth = s.lWidth := rfl
@[simp] theorem State.clearAtStart_dWait : (s.clearAtStart).dWait = false := rfl
@[simp] theorem State.clearAtStart_dCnt : (s.clearAtStart).dCnt = 0 := rfl
@[simp] theorem State.clearAtStart_cHave : (s.clearAtStart).cHave = false := rfl
@[simp] theorem State.clearAtStart_cVal : (s.clearAtStart).cVal = 0 := rfl
@[simp] theorem State.clearAtStart_cCnt : (s.clearAtStart).cCnt = 0 := rfl
@[simp] theorem State.clearAtStart_cPadDone : (s.clearAtStart).cPadDone = false := rfl
@[simp] theorem State.clearAtStart_rdata : (s.clearAtStart).rdata = s.rdata := rfl
@[simp] theorem State.clearAtStart_events : (s.clearAtStart).events = s.events := rfl

/-! ## withEvents -/

@[simp] theorem State.withEvents_params (es : List Event) : (s.withEvents es).params = s.params := rfl
@[simp] theorem State.withEvents_len (es : List Event) : (s.withEvents es).len = s.len := rfl
@[simp] theorem State.withEvents_bps (es : List Event) : (s.withEvents es).bps = s.bps := rfl
@[simp] theorem State.withEvents_planes (es : List Event) : (s.withEvents es).planes = s.planes := rfl
@[simp] theorem State.withEvents_bpl (es : List Event) : (s.withEvents es).bpl = s.bpl := rfl
@[simp] theorem State.withEvents_width (es : List Event) : (s.withEvents es).width = s.width := rfl
@[simp] theorem State.withEvents_doneIe (es : List Event) : (s.withEvents es).doneIe = s.doneIe := rfl
@[simp] theorem State.withEvents_errIe (es : List Event) : (s.withEvents es).errIe = s.errIe := rfl
@[simp] theorem State.withEvents_herrIe (es : List Event) : (s.withEvents es).herrIe = s.herrIe := rfl
@[simp] theorem State.withEvents_slbAddr (es : List Event) : (s.withEvents es).slbAddr = s.slbAddr := rfl
@[simp] theorem State.withEvents_done (es : List Event) : (s.withEvents es).done = s.done := rfl
@[simp] theorem State.withEvents_err (es : List Event) : (s.withEvents es).err = s.err := rfl
@[simp] theorem State.withEvents_errcode (es : List Event) : (s.withEvents es).errcode = s.errcode := rfl
@[simp] theorem State.withEvents_herr (es : List Event) : (s.withEvents es).herr = s.herr := rfl
@[simp] theorem State.withEvents_inCount (es : List Event) : (s.withEvents es).inCount = s.inCount := rfl
@[simp] theorem State.withEvents_outCount (es : List Event) : (s.withEvents es).outCount = s.outCount := rfl
@[simp] theorem State.withEvents_slbCount (es : List Event) : (s.withEvents es).slbCount = s.slbCount := rfl
@[simp] theorem State.withEvents_idxCount (es : List Event) : (s.withEvents es).idxCount = s.idxCount := rfl
@[simp] theorem State.withEvents_slb (es : List Event) : (s.withEvents es).slb = s.slb := rfl
@[simp] theorem State.withEvents_inFifo (es : List Event) : (s.withEvents es).inFifo = s.inFifo := rfl
@[simp] theorem State.withEvents_eos (es : List Event) : (s.withEvents es).eos = s.eos := rfl
@[simp] theorem State.withEvents_outFifo (es : List Event) : (s.withEvents es).outFifo = s.outFifo := rfl
@[simp] theorem State.withEvents_idxFifo (es : List Event) : (s.withEvents es).idxFifo = s.idxFifo := rfl
@[simp] theorem State.withEvents_phase (es : List Event) : (s.withEvents es).phase = s.phase := rfl
@[simp] theorem State.withEvents_op (es : List Event) : (s.withEvents es).op = s.op := rfl
@[simp] theorem State.withEvents_lN (es : List Event) : (s.withEvents es).lN = s.lN := rfl
@[simp] theorem State.withEvents_lLen (es : List Event) : (s.withEvents es).lLen = s.lLen := rfl
@[simp] theorem State.withEvents_lPad (es : List Event) : (s.withEvents es).lPad = s.lPad := rfl
@[simp] theorem State.withEvents_lBps (es : List Event) : (s.withEvents es).lBps = s.lBps := rfl
@[simp] theorem State.withEvents_lPlanes (es : List Event) : (s.withEvents es).lPlanes = s.lPlanes := rfl
@[simp] theorem State.withEvents_lBpl (es : List Event) : (s.withEvents es).lBpl = s.lBpl := rfl
@[simp] theorem State.withEvents_lWidth (es : List Event) : (s.withEvents es).lWidth = s.lWidth := rfl
@[simp] theorem State.withEvents_dWait (es : List Event) : (s.withEvents es).dWait = s.dWait := rfl
@[simp] theorem State.withEvents_dCnt (es : List Event) : (s.withEvents es).dCnt = s.dCnt := rfl
@[simp] theorem State.withEvents_cHave (es : List Event) : (s.withEvents es).cHave = s.cHave := rfl
@[simp] theorem State.withEvents_cVal (es : List Event) : (s.withEvents es).cVal = s.cVal := rfl
@[simp] theorem State.withEvents_cCnt (es : List Event) : (s.withEvents es).cCnt = s.cCnt := rfl
@[simp] theorem State.withEvents_cPadDone (es : List Event) : (s.withEvents es).cPadDone = s.cPadDone := rfl
@[simp] theorem State.withEvents_rdata (es : List Event) : (s.withEvents es).rdata = s.rdata := rfl
@[simp] theorem State.withEvents_events (es : List Event) : (s.withEvents es).events = es := rfl

end Sys2Proof.Machine
end

