-- ==== Sys2Proof/Laws/Memory.lean ====
section
/-! SUPPORT. The memory operations: read after write and after fill, at the same address and elsewhere; every one
keeps the canonical form and the bound on addresses; what they mean for the SLB (10_state.md R40). -/

namespace Sys2Proof.Machine

/-- Reading after a write gives the byte written at its address, and what was there everywhere else. -/
theorem Memory.read_write (m : Memory) (a : Nat) (v : Byte) (x : Nat) :
    (m.write a v).read x = if x = a then some v else m.read x := by
  induction m with
  | nil => simp [Memory.write, Memory.read]
  | cons c m ih =>
    obtain ⟨b, w⟩ := c
    simp only [Memory.write]
    split
    · simp [Memory.read]
    · split
      · simp only [Memory.read]; split <;> simp_all
      · simp only [Memory.read, ih]; split <;> (simp_all; try omega)

/-- Reading after a fill gives the byte in the range filled, and what was there everywhere else. -/
theorem Memory.read_fill (n : Nat) (m : Memory) (a : Nat) (v : Byte) (x : Nat) :
    (m.fill a v n).read x = if a ≤ x ∧ x < a + n then some v else m.read x := by
  induction n generalizing m a with
  | zero => simp [Memory.fill]
  | succ n ih =>
    rw [Memory.fill, ih, Memory.read_write]
    by_cases h : a = x <;> split <;> split <;> first | rfl | omega | (split <;> first | rfl | omega)

/-- The addresses listed after a write are the one written and those listed before. -/
theorem Memory.mem_write {m : Memory} {a : Nat} {v : Byte} {c : Host.Cell} (h : c ∈ m.write a v) :
    c = (a, v) ∨ c ∈ m := by
  induction m with
  | nil => simpa [Memory.write] using h
  | cons e m ih =>
    simp only [Memory.write] at h
    split at h
    · simpa using h
    · split at h
      · simp only [List.mem_cons] at h ⊢; tauto
      · simp only [List.mem_cons] at h ⊢; tauto

/-- A write keeps the canonical form. -/
theorem Memory.wf_write {m : Memory} (a : Nat) (v : Byte) (h : m.wf) : (m.write a v).wf := by
  induction m with
  | nil => simp [Memory.write, Memory.wf]
  | cons c m ih =>
    obtain ⟨b, w⟩ := c
    have ⟨hb, hm⟩ := List.pairwise_cons.1 h
    simp only [Memory.write]
    split
    · refine List.pairwise_cons.2 ⟨fun e he => ?_, h⟩
      rcases List.mem_cons.1 he with rfl | he
      · assumption
      · exact Nat.lt_trans ‹_› (hb e he)
    · split
      · subst_vars; exact List.pairwise_cons.2 ⟨hb, hm⟩
      · refine List.pairwise_cons.2 ⟨fun e he => ?_, ih hm⟩
        rcases Memory.mem_write he with rfl | he
        · simp only; omega
        · exact hb e he

/-- A fill keeps the canonical form. -/
theorem Memory.wf_fill (n : Nat) {m : Memory} (a : Nat) (v : Byte) (h : m.wf) : (m.fill a v n).wf := by
  induction n generalizing m a with
  | zero => exact h
  | succ n ih => exact ih _ (Memory.wf_write a v h)

/-- A write below a bound keeps every listed address below it. -/
theorem Memory.bound_write {m : Memory} {a k : Nat} (v : Byte) (h : ∀ c ∈ m, c.1 < k) (ha : a < k) :
    ∀ c ∈ m.write a v, c.1 < k := fun c hc => by
  rcases Memory.mem_write hc with rfl | hc
  · exact ha
  · exact h c hc

/-- A fill below a bound keeps every listed address below it. -/
theorem Memory.bound_fill (n : Nat) {m : Memory} {a k : Nat} (v : Byte) (h : ∀ c ∈ m, c.1 < k) (ha : a + n ≤ k) :
    ∀ c ∈ m.fill a v n, c.1 < k := by
  induction n generalizing m a with
  | zero => exact h
  | succ n ih => exact ih (Memory.bound_write v h (by omega)) (by omega)

/-- The SLB at reset lists nothing, so it is in canonical form. -/
theorem State.reset_slb_wf : State.reset.slb.wf := List.Pairwise.nil

/-- What an SLB byte holds depends on the memory alone. -/
theorem State.slbByte_congr {s t : State} (h : t.slb = s.slb) : t.slbByte = s.slbByte := by
  funext a; simp [State.slbByte, h]

/-- An SLB byte after one byte is written. -/
theorem State.slbByte_of_write {s t : State} {a : Nat} {v : Byte} (h : t.slb = s.slb.write a v) (x : Nat) :
    t.slbByte x = if x = a then v else s.slbByte x := by
  simp only [State.slbByte, h, Memory.read_write]; split <;> rfl

/-- An SLB byte after a range is filled. -/
theorem State.slbByte_of_fill {s t : State} {a n : Nat} {v : Byte} (h : t.slb = s.slb.fill a v n) (x : Nat) :
    t.slbByte x = if a ≤ x ∧ x < a + n then v else s.slbByte x := by
  simp only [State.slbByte, h, Memory.read_fill]; split <;> rfl

end Sys2Proof.Machine
end

