-- ==== Sys2Proof/Laws/Ops.lean ====
section
/-! SUPPORT. For each shared operation and each engine step, one lemma that says once everything it can do, with the
condition of each case, so that no later proof unfolds it. -/

namespace Sys2Proof.Machine

/-! ## Host operations -/

/-- A push is refused with HERR, or appends its byte. -/
theorem State.pushIn_cases (s : State) (b : Byte) :
    ((s.eos = true ∨ s.inFifo.length = s.params.inDepth) ∧ s.pushIn b = s.setHerr)
      ∨ (s.eos = false ∧ s.inFifo.length ≠ s.params.inDepth ∧ s.pushIn b = { s with inFifo := s.inFifo ++ [b] }) := by
  unfold State.pushIn; split
  · exact .inl ⟨‹_›, rfl⟩
  · exact .inr ⟨by simp_all, by simp_all, rfl⟩

/-- A pop of an empty output FIFO returns 0. -/
theorem State.popOut_nil {s : State} (h : s.outFifo = []) : s.popOut = s.ret 0 := by
  simp [State.popOut, h]

/-- A pop of the output FIFO takes the oldest byte. -/
theorem State.popOut_cons {s : State} {b : Byte} {rest : List Byte} (h : s.outFifo = b :: rest) :
    s.popOut = { s with outFifo := rest, rdata := popWord b } := by
  simp [State.popOut, h, State.ret]

/-- A pop of an empty index FIFO returns 0. -/
theorem State.popIdx_nil {s : State} (h : s.idxFifo = []) : s.popIdx = s.ret 0 := by
  simp [State.popIdx, h]

/-- A pop of the index FIFO takes the oldest index. -/
theorem State.popIdx_cons {s : State} {b : Byte} {rest : List Byte} (h : s.idxFifo = b :: rest) :
    s.popIdx = { s with idxFifo := rest, rdata := popWord b } := by
  simp [State.popIdx, h, State.ret]

/-- BUSY is 1 exactly when the phase is not IDLE. -/
theorem State.busy_iff (s : State) : s.busy = true ↔ s.phase ≠ .idle := by simp [State.busy]

/-- BUSY is 0 exactly when the phase is IDLE. -/
theorem State.busy_eq_false_iff (s : State) : s.busy = false ↔ s.phase = .idle := by simp [State.busy]

/-- A read of the SLB window: refused while busy, a byte, or refused beyond the SLB. -/
theorem State.slbWindowRead_cases (s : State) :
    (s.phase ≠ .idle ∧ s.slbWindowRead = s.setHerr.ret 0)
      ∨ (s.phase = .idle ∧ s.slbAddr.toNat < s.params.slbBytes
          ∧ s.slbWindowRead = s.slbAdvance.ret ((s.slbByte s.slbAddr.toNat).setWidth 32))
      ∨ (s.phase = .idle ∧ s.params.slbBytes ≤ s.slbAddr.toNat
          ∧ s.slbWindowRead = s.setHerr.slbAdvance.ret 0) := by
  unfold State.slbWindowRead
  split
  · exact .inl ⟨s.busy_iff.1 ‹_›, rfl⟩
  · have h : s.phase = .idle := s.busy_eq_false_iff.1 (by simp_all)
    split
    · exact .inr (.inl ⟨h, ‹_›, rfl⟩)
    · exact .inr (.inr ⟨h, by omega, rfl⟩)

/-- A write of the SLB window: refused while busy, a byte stored, or refused beyond the SLB. -/
theorem State.slbWindowWrite_cases (s : State) (b : Byte) :
    (s.phase ≠ .idle ∧ s.slbWindowWrite b = s.setHerr)
      ∨ (s.phase = .idle ∧ s.slbAddr.toNat < s.params.slbBytes
          ∧ s.slbWindowWrite b = { s with slb := s.slb.write s.slbAddr.toNat b, slbAddr := s.slbAddr + 1 })
      ∨ (s.phase = .idle ∧ s.params.slbBytes ≤ s.slbAddr.toNat ∧ s.slbWindowWrite b = s.setHerr.slbAdvance) := by
  unfold State.slbWindowWrite
  split
  · exact .inl ⟨s.busy_iff.1 ‹_›, rfl⟩
  · have h : s.phase = .idle := s.busy_eq_false_iff.1 (by simp_all)
    split
    · exact .inr (.inl ⟨h, ‹_›, rfl⟩)
    · exact .inr (.inr ⟨h, by omega, rfl⟩)

/-- The FLUSH part of a write to IN_CTRL. -/
theorem State.flushIn_cases (s : State) (d : Word) :
    (d.getLsbD 1 = false ∧ s.flushIn d = s)
      ∨ (d.getLsbD 1 = true ∧ s.phase ≠ .idle ∧ s.flushIn d = s.setHerr)
      ∨ (d.getLsbD 1 = true ∧ s.phase = .idle ∧ s.flushIn d = { s with inFifo := [], eos := false }) := by
  unfold State.flushIn
  split
  · split
    · exact .inr (.inl ⟨‹_›, s.busy_iff.1 ‹_›, rfl⟩)
    · exact .inr (.inr ⟨‹_›, s.busy_eq_false_iff.1 (by simp_all), rfl⟩)
  · exact .inl ⟨by simp_all, rfl⟩

/-- The EOS_SET part of a write to IN_CTRL. -/
theorem State.setEos_eq (s : State) (d : Word) : s.setEos d = { s with eos := s.eos || d.getLsbD 0 } := by
  unfold State.setEos; split <;> simp_all

/-- A write to CTRL resets the block or does nothing. -/
theorem State.writeCtrl_cases (s : State) (d : Word) :
    (d.getLsbD 0 = true ∧ s.writeCtrl d = s.resetBlock) ∨ (d.getLsbD 0 = false ∧ s.writeCtrl d = s) := by
  unfold State.writeCtrl; split
  · exact .inl ⟨‹_›, rfl⟩
  · exact .inr ⟨by simp_all, rfl⟩

/-! ## Command issue -/

/-- The state a start checks: op set, cleared, latched. -/
theorem State.start_cases (s : State) (op : Op) (d : Word) :
    (∃ code, ((State.clearAtStart { s with op := op }).latch op d).issueError op = some code
        ∧ s.start op d = ((State.clearAtStart { s with op := op }).latch op d).raiseError code)
      ∨ (((State.clearAtStart { s with op := op }).latch op d).issueError op = none
        ∧ s.start op d = { (State.clearAtStart { s with op := op }).latch op d with phase := op.firstPhase }) := by
  unfold State.start
  cases h : ((State.clearAtStart { s with op := op }).latch op d).issueError op with
  | none => exact .inr ⟨rfl, by simp only [h]⟩
  | some code => exact .inl ⟨code, rfl, by simp only [h]⟩

/-- A write to CMD: ignored while busy, illegal, NOP, or the start of a command. -/
theorem State.writeCmd_cases (s : State) (d : Word) :
    (s.phase ≠ .idle ∧ s.writeCmd d = s.setHerr)
      ∨ (s.phase = .idle ∧ illegalCmd d = true ∧ s.writeCmd d = s.raiseIllegal)
      ∨ (s.phase = .idle ∧ illegalCmd d = false ∧ startedOp d = none ∧ s.writeCmd d = s)
      ∨ ∃ op, s.phase = .idle ∧ illegalCmd d = false ∧ startedOp d = some op ∧ s.writeCmd d = s.start op d := by
  unfold State.writeCmd
  split
  · exact .inl ⟨s.busy_iff.1 ‹_›, rfl⟩
  · have h : s.phase = .idle := s.busy_eq_false_iff.1 (by simp_all)
    split
    · exact .inr (.inl ⟨h, ‹_›, rfl⟩)
    · have hd : illegalCmd d = false := by simp_all
      cases ho : startedOp d with
      | none => exact .inr (.inr (.inl ⟨h, hd, rfl, rfl⟩))
      | some op => exact .inr (.inr (.inr ⟨op, h, hd, rfl, rfl⟩))

/-! ## Decompression -/

/-- A DEC write that fits is taken. -/
theorem State.decWrite_fits {s : State} {v : Byte} {m : Nat} {after : State → State}
    (h : s.slbCount.toNat + m ≤ s.params.slbBytes) :
    s.decWrite v m after =
      .took (after
        { s with slb := s.slb.fill s.slbCount.toNat v m, slbCount := s.slbCount + BitVec.ofNat 32 m }) := by
  simp [State.decWrite, h]

/-- DecStep: the end of the scanline, the end of the input, a hold, a value byte or the first byte of a unit. -/
theorem State.decStep_cases (s : State) :
    (s.slbCount = s.lN ∧ s.op = .drow ∧ s.decStep = .took s.enterUnp)
      ∨ (s.slbCount = s.lN ∧ s.op ≠ .drow ∧ s.decStep = .took s.complete)
      ∨ (s.slbCount ≠ s.lN ∧ s.inFifo = [] ∧ s.eos = true ∧ s.decStep = .took (s.raiseError .streamTruncated))
      ∨ (s.slbCount ≠ s.lN ∧ s.inFifo = [] ∧ s.eos = false ∧ s.decStep = .holdIn)
      ∨ ∃ b rest, s.slbCount ≠ s.lN ∧ s.inFifo = b :: rest
          ∧ ((s.dWait = true ∧ s.decStep = s.decValueByte b rest)
            ∨ (s.dWait = false ∧ isRunCount b = true
                ∧ s.decStep = .took { s.inPopped rest with dCnt := runCount b, dWait := true })
            ∨ (s.dWait = false ∧ isRunCount b = false ∧ s.decStep = (s.inPopped rest).decWrite b 1 id)) := by
  unfold State.decStep
  split
  · split
    · exact .inl ⟨‹_›, ‹_›, rfl⟩
    · exact .inr (.inl ⟨‹_›, ‹_›, rfl⟩)
  · cases hf : s.inFifo with
    | nil => cases he : s.eos <;> simp_all
    | cons b rest =>
      cases hw : s.dWait <;> cases hr : isRunCount b <;> simp_all [State.decUnitByte]

/-- The value byte of a run whose copies fit the SLB: all of them are written, or those that fit the scanline and
RUN_OVERRUN is raised. -/
theorem State.decValueByte_cases {s : State} {v : Byte} {rest : List Byte}
    (h : s.slbCount.toNat + min s.dCnt.toNat s.room ≤ s.params.slbBytes) :
    (s.dCnt.toNat ≤ s.room ∧ s.decValueByte v rest =
        .took
          { s.inPopped rest with
            slb := s.slb.fill s.slbCount.toNat v s.dCnt.toNat
            slbCount := s.slbCount + BitVec.ofNat 32 s.dCnt.toNat
            dWait := false })
      ∨ (s.room < s.dCnt.toNat ∧ s.decValueByte v rest =
        .took (State.raiseError
          { s.inPopped rest with
            slb := s.slb.fill s.slbCount.toNat v s.room
            slbCount := s.slbCount + BitVec.ofNat 32 s.room
            dWait := false } .runOverrun)) := by
  unfold State.decValueByte
  rw [State.decWrite_fits (by simpa using h)]
  by_cases hr : s.room < s.dCnt.toNat
  · exact .inr ⟨hr, by simp [hr, Nat.min_eq_right (Nat.le_of_lt hr)]⟩
  · exact .inl ⟨by omega, by simp [hr, Nat.min_eq_left (Nat.le_of_not_lt hr)]⟩

/-! ## Compression -/

/-- `Accumulate(b)`: the run grows, is emitted at 63, or a new run starts, after the old one is emitted if there is
one. -/
theorem State.accumulate_cases (s : State) (b : Byte) :
    (s.cHave = true ∧ b = s.cVal ∧ s.cCnt + 1 ≠ 63 ∧ s.accumulate b = { s with cCnt := s.cCnt + 1 })
      ∨ (s.cHave = true ∧ b = s.cVal ∧ s.cCnt + 1 = 63
          ∧ s.accumulate b =
            { State.outPush { s with cCnt := s.cCnt + 1 } (unit s.cVal 63) with cHave := false })
      ∨ (s.cHave = true ∧ b ≠ s.cVal
          ∧ s.accumulate b =
            { s.outPush (unit s.cVal s.cCnt.toNat) with cVal := b, cCnt := 1, cHave := true })
      ∨ (s.cHave = false ∧ s.accumulate b = { s with cVal := b, cCnt := 1, cHave := true }) := by
  unfold State.accumulate
  cases hc : s.cHave
  · exact .inr (.inr (.inr ⟨rfl, by simp⟩))
  · by_cases hb : b = s.cVal
    · by_cases h63 : s.cCnt + 1 = 63
      · exact .inr (.inl ⟨rfl, hb, h63, by simpa [hb, State.emitUnit] using h63⟩)
      · exact .inl ⟨rfl, hb, h63, by simpa [hb] using h63⟩
    · exact .inr (.inr (.inl ⟨rfl, hb, by simp [hb, State.emitUnit]⟩))

/-- The flush: the pending run, if there is one, is emitted, and the command completes. -/
theorem State.cmpFlush_cases (s : State) :
    (s.cHave = true ∧ s.cmpFlush = (s.outPush (unit s.cVal s.cCnt.toNat)).complete)
      ∨ (s.cHave = false ∧ s.cmpFlush = s.complete) := by
  unfold State.cmpFlush
  cases hc : s.cHave
  · exact .inr ⟨rfl, by simp [State.complete, State.clearRun]⟩
  · exact .inl ⟨rfl, by simp [State.complete, State.clearRun, State.emitUnit]⟩

/-- CmpStep: the flush, the end of the input, a byte of input, the padding byte, or a hold. -/
theorem State.cmpStep_cases (s : State) :
    (s.inCount = s.lLen ∧ (s.needPad = false ∨ s.cPadDone = true) ∧ s.cHave = true ∧ s.outFree < 2
        ∧ s.cmpStep = .holdOut)
      ∨ (s.inCount = s.lLen ∧ (s.needPad = false ∨ s.cPadDone = true) ∧ (s.cHave = false ∨ 2 ≤ s.outFree)
        ∧ s.cmpStep = .took s.cmpFlush)
      ∨ (s.inCount < s.lLen ∧ s.inFifo = [] ∧ s.eos = true ∧ s.cmpStep = .took (s.raiseError .streamTruncated))
      ∨ (s.inCount < s.lLen ∧ s.inFifo = [] ∧ s.eos = false ∧ s.cmpStep = .holdIn)
      ∨ (∃ b rest, s.inCount < s.lLen ∧ s.inFifo = b :: rest
          ∧ ((s.outFree < 2 ∧ s.cmpStep = .holdOut)
            ∨ (2 ≤ s.outFree ∧ s.cmpStep = .took ((s.inPopped rest).accumulate b))))
      ∨ (¬(s.inCount = s.lLen ∧ (s.needPad = false ∨ s.cPadDone = true)) ∧ ¬s.inCount < s.lLen
          ∧ ((s.outFree < 2 ∧ s.cmpStep = .holdOut)
            ∨ (2 ≤ s.outFree ∧ s.cmpStep = .took (State.accumulate { s with cPadDone := true } 0x00)))) := by
  unfold State.cmpStep
  by_cases hd : s.inCount = s.lLen ∧ (s.needPad = false ∨ s.cPadDone = true)
  · rw [if_pos hd]
    by_cases hh : s.cHave = true ∧ s.outFree < 2
    · exact .inl ⟨hd.1, hd.2, hh.1, hh.2, if_pos hh⟩
    · refine .inr (.inl ⟨hd.1, hd.2, ?_, if_neg hh⟩)
      cases hc : s.cHave
      · exact .inl rfl
      · exact .inr (Nat.le_of_not_lt fun ho => hh ⟨hc, ho⟩)
  · rw [if_neg hd]
    by_cases hl : s.inCount < s.lLen
    · rw [if_pos hl]
      cases hf : s.inFifo with
      | nil => cases he : s.eos <;> simp_all
      | cons b rest =>
        refine .inr (.inr (.inr (.inr (.inl ⟨b, rest, hl, rfl, ?_⟩))))
        by_cases ho : s.outFree < 2
        · exact .inl ⟨ho, by simp [ho]⟩
        · exact .inr ⟨by omega, by simp [ho]⟩
    · rw [if_neg hl]
      refine .inr (.inr (.inr (.inr (.inr ⟨hd, hl, ?_⟩))))
      by_cases ho : s.outFree < 2
      · exact .inl ⟨ho, by simp [ho]⟩
      · exact .inr ⟨by omega, by simp [ho]⟩

/-! ## Index extraction -/

/-- UnpStep: the end of the row, a hold, or one index; the two stops are the states no run reaches. -/
theorem State.unpStep_cases (s : State) :
    (s.idxCount.toNat = s.lWidth.toNat ∧ s.unpStep = .took s.complete)
      ∨ (s.idxCount.toNat ≠ s.lWidth.toNat ∧ s.idxFree = 0 ∧ s.unpStep = .holdOut)
      ∨ (s.idxCount.toNat ≠ s.lWidth.toNat ∧ s.idxFree ≠ 0 ∧ s.mode = .none ∧ s.unpStep = .stuck .noUnpackMode)
      ∨ (s.idxCount.toNat ≠ s.lWidth.toNat ∧ s.idxFree ≠ 0 ∧ s.mode ≠ .none
          ∧ (∀ a ∈ s.indexReads s.idxCount.toNat, a < s.params.slbBytes)
          ∧ s.unpStep = .took (s.idxPush (s.index s.idxCount.toNat)))
      ∨ (s.idxCount.toNat ≠ s.lWidth.toNat ∧ s.idxFree ≠ 0 ∧ s.mode ≠ .none
          ∧ (∃ a ∈ s.indexReads s.idxCount.toNat, s.params.slbBytes ≤ a) ∧ s.unpStep = .stuck .slbOutOfRange) := by
  unfold State.unpStep
  split
  · exact .inl ⟨‹_›, rfl⟩
  · split
    · exact .inr (.inl ⟨‹_›, ‹_›, rfl⟩)
    · split
      · exact .inr (.inr (.inl ⟨‹_›, ‹_›, ‹_›, rfl⟩))
      · split
        · exact .inr (.inr (.inr (.inl ⟨‹_›, ‹_›, ‹_›, by simp_all, rfl⟩)))
        · exact .inr (.inr (.inr (.inr ⟨‹_›, ‹_›, ‹_›, by simp_all, rfl⟩)))

/-! ## The engine's turn and the step -/

/-- A turn of the engine that leaves `t`: a step taken, or nothing. -/
theorem State.engineTurn_next {s t : State} (h : s.engineTurn = .next t) :
    s.engineStep = .took t
      ∨ (t = s ∧ (s.engineStep = .none ∨ s.engineStep = .holdIn ∨ s.engineStep = .holdOut)) := by
  unfold State.engineTurn at h
  cases he : s.engineStep <;> simp_all

/-- A turn of the engine refuses nothing. -/
theorem State.engineTurn_not_refused (s : State) (r : Refusal) : s.engineTurn ≠ .refused r := by
  unfold State.engineTurn; cases s.engineStep <;> simp

/-- The meaning of every operation leaves a next state, in every state: no operation faults and none is refused. -/
theorem exec_next (i : Instr) (s : State) : ∃ t, exec i s = .next t := by
  cases i <;> exact ⟨_, rfl⟩

/-- What a step that leaves `t` was: the engine alone, a turn of the engine, a hardware reset, or a host access. -/
theorem step_cases {s t : State} (h : step s = .next t) :
    (s.events = [] ∧ s.engineTurn = .next t)
      ∨ (∃ es, s.events = .engine :: es ∧ (s.withEvents es).engineTurn = .next t)
      ∨ (∃ es, s.events = .hardReset :: es ∧ t = (s.withEvents es).resetBlock)
      ∨ ∃ a es i, s.events = .host a :: es ∧ decode s.params.baseAddr a = .ok i
          ∧ exec i (s.withEvents es) = .next t := by
  unfold step State.turn at h
  cases he : s.events with
  | nil => simp_all
  | cons e es =>
    cases e with
    | engine => simp_all
    | hardReset => simp_all
    | host a =>
      cases hd : decode s.params.baseAddr a <;> simp_all [State.hostTurn]

end Sys2Proof.Machine
end

