-- ==== Sys2Proof/Laws/PerInstr.lean ====
section
/-! SUPPORT. The family made per instruction: the transaction of every operation is inside the interface contract of
20_memory.md R71, at every base address. -/

namespace Sys2Proof.Laws

/-- A 32-bit read at an aligned offset below 256 is inside the contract (R71). -/
theorem readAt_inContract (base off : Nat) (h : off < 256) (ha : off % 4 = 0) :
    (readAt base off).inContract base = true := by
  simp [readAt, BusAccess.inContract, h, ha]

/-- A 32-bit write at an aligned offset below 256 is inside the contract (R71). -/
theorem writeAt_inContract (base off : Nat) (d : Word) (h : off < 256) (ha : off % 4 = 0) :
    (writeAt base off d).inContract base = true := by
  simp [writeAt, lanesOfWord, BusAccess.inContract, h, ha]

/-- The transaction of `i` is inside the contract. -/
def EncodingInContract.Statement (i : Instr) : Prop := ∀ base : Nat, (encode base i).inContract base = true

theorem EncodingInContract.nop : EncodingInContract.Statement Instr.nop := fun _ =>
  writeAt_inContract _ _ _ (by decide) (by decide)
theorem EncodingInContract.decomp : EncodingInContract.Statement Instr.decomp := fun _ =>
  writeAt_inContract _ _ _ (by decide) (by decide)
theorem EncodingInContract.comp : EncodingInContract.Statement Instr.comp := fun _ =>
  writeAt_inContract _ _ _ (by decide) (by decide)
theorem EncodingInContract.compP : EncodingInContract.Statement Instr.compP := fun _ =>
  writeAt_inContract _ _ _ (by decide) (by decide)
theorem EncodingInContract.unpack : EncodingInContract.Statement Instr.unpack := fun _ =>
  writeAt_inContract _ _ _ (by decide) (by decide)
theorem EncodingInContract.drow : EncodingInContract.Statement Instr.drow := fun _ =>
  writeAt_inContract _ _ _ (by decide) (by decide)
theorem EncodingInContract.rdId : EncodingInContract.Statement Instr.rdId := fun _ =>
  readAt_inContract _ _ (by decide) (by decide)
theorem EncodingInContract.wrCtrl (d : Word) : EncodingInContract.Statement (Instr.wrCtrl d) := fun _ =>
  writeAt_inContract _ _ _ (by decide) (by decide)
theorem EncodingInContract.rdStatus : EncodingInContract.Statement Instr.rdStatus := fun _ =>
  readAt_inContract _ _ (by decide) (by decide)
theorem EncodingInContract.wrStatus (d : Word) : EncodingInContract.Statement (Instr.wrStatus d) := fun _ =>
  writeAt_inContract _ _ _ (by decide) (by decide)
theorem EncodingInContract.wrCmd (d : Word) : EncodingInContract.Statement (Instr.wrCmd d) := fun _ =>
  writeAt_inContract _ _ _ (by decide) (by decide)
theorem EncodingInContract.rdCmd : EncodingInContract.Statement Instr.rdCmd := fun _ =>
  readAt_inContract _ _ (by decide) (by decide)
theorem EncodingInContract.wrLen (d : Word) : EncodingInContract.Statement (Instr.wrLen d) := fun _ =>
  writeAt_inContract _ _ _ (by decide) (by decide)
theorem EncodingInContract.rdLen : EncodingInContract.Statement Instr.rdLen := fun _ =>
  readAt_inContract _ _ (by decide) (by decide)
theorem EncodingInContract.wrGeom (d : Word) : EncodingInContract.Statement (Instr.wrGeom d) := fun _ =>
  writeAt_inContract _ _ _ (by decide) (by decide)
theorem EncodingInContract.rdGeom : EncodingInContract.Statement Instr.rdGeom := fun _ =>
  readAt_inContract _ _ (by decide) (by decide)
theorem EncodingInContract.wrWidth (d : Word) : EncodingInContract.Statement (Instr.wrWidth d) := fun _ =>
  writeAt_inContract _ _ _ (by decide) (by decide)
theorem EncodingInContract.rdWidth : EncodingInContract.Statement Instr.rdWidth := fun _ =>
  readAt_inContract _ _ (by decide) (by decide)
theorem EncodingInContract.wrIrqEn (d : Word) : EncodingInContract.Statement (Instr.wrIrqEn d) := fun _ =>
  writeAt_inContract _ _ _ (by decide) (by decide)
theorem EncodingInContract.rdIrqEn : EncodingInContract.Statement Instr.rdIrqEn := fun _ =>
  readAt_inContract _ _ (by decide) (by decide)
theorem EncodingInContract.wrInData (d : Word) : EncodingInContract.Statement (Instr.wrInData d) := fun _ =>
  writeAt_inContract _ _ _ (by decide) (by decide)
theorem EncodingInContract.wrInCtrl (d : Word) : EncodingInContract.Statement (Instr.wrInCtrl d) := fun _ =>
  writeAt_inContract _ _ _ (by decide) (by decide)
theorem EncodingInContract.rdInCtrl : EncodingInContract.Statement Instr.rdInCtrl := fun _ =>
  readAt_inContract _ _ (by decide) (by decide)
theorem EncodingInContract.rdOutData : EncodingInContract.Statement Instr.rdOutData := fun _ =>
  readAt_inContract _ _ (by decide) (by decide)
theorem EncodingInContract.rdIdxData : EncodingInContract.Statement Instr.rdIdxData := fun _ =>
  readAt_inContract _ _ (by decide) (by decide)
theorem EncodingInContract.rdLevels : EncodingInContract.Statement Instr.rdLevels := fun _ =>
  readAt_inContract _ _ (by decide) (by decide)
theorem EncodingInContract.wrSlbAddr (d : Word) : EncodingInContract.Statement (Instr.wrSlbAddr d) := fun _ =>
  writeAt_inContract _ _ _ (by decide) (by decide)
theorem EncodingInContract.rdSlbAddr : EncodingInContract.Statement Instr.rdSlbAddr := fun _ =>
  readAt_inContract _ _ (by decide) (by decide)
theorem EncodingInContract.rdSlbData : EncodingInContract.Statement Instr.rdSlbData := fun _ =>
  readAt_inContract _ _ (by decide) (by decide)
theorem EncodingInContract.wrSlbData (d : Word) : EncodingInContract.Statement (Instr.wrSlbData d) := fun _ =>
  writeAt_inContract _ _ _ (by decide) (by decide)
theorem EncodingInContract.rdInCount : EncodingInContract.Statement Instr.rdInCount := fun _ =>
  readAt_inContract _ _ (by decide) (by decide)
theorem EncodingInContract.rdOutCount : EncodingInContract.Statement Instr.rdOutCount := fun _ =>
  readAt_inContract _ _ (by decide) (by decide)
theorem EncodingInContract.rdSlbCount : EncodingInContract.Statement Instr.rdSlbCount := fun _ =>
  readAt_inContract _ _ (by decide) (by decide)
theorem EncodingInContract.rdIdxCount : EncodingInContract.Statement Instr.rdIdxCount := fun _ =>
  readAt_inContract _ _ (by decide) (by decide)
theorem EncodingInContract.wrId (d : Word) : EncodingInContract.Statement (Instr.wrId d) := fun _ =>
  writeAt_inContract _ _ _ (by decide) (by decide)
theorem EncodingInContract.rdCtrl : EncodingInContract.Statement Instr.rdCtrl := fun _ =>
  readAt_inContract _ _ (by decide) (by decide)
theorem EncodingInContract.rdInData : EncodingInContract.Statement Instr.rdInData := fun _ =>
  readAt_inContract _ _ (by decide) (by decide)
theorem EncodingInContract.wrOutData (d : Word) : EncodingInContract.Statement (Instr.wrOutData d) := fun _ =>
  writeAt_inContract _ _ _ (by decide) (by decide)
theorem EncodingInContract.wrIdxData (d : Word) : EncodingInContract.Statement (Instr.wrIdxData d) := fun _ =>
  writeAt_inContract _ _ _ (by decide) (by decide)
theorem EncodingInContract.wrLevels (d : Word) : EncodingInContract.Statement (Instr.wrLevels d) := fun _ =>
  writeAt_inContract _ _ _ (by decide) (by decide)
theorem EncodingInContract.wrInCount (d : Word) : EncodingInContract.Statement (Instr.wrInCount d) := fun _ =>
  writeAt_inContract _ _ _ (by decide) (by decide)
theorem EncodingInContract.wrOutCount (d : Word) : EncodingInContract.Statement (Instr.wrOutCount d) := fun _ =>
  writeAt_inContract _ _ _ (by decide) (by decide)
theorem EncodingInContract.wrSlbCount (d : Word) : EncodingInContract.Statement (Instr.wrSlbCount d) := fun _ =>
  writeAt_inContract _ _ _ (by decide) (by decide)
theorem EncodingInContract.wrIdxCount (d : Word) : EncodingInContract.Statement (Instr.wrIdxCount d) := fun _ =>
  writeAt_inContract _ _ _ (by decide) (by decide)
theorem EncodingInContract.rdUnmapped4C : EncodingInContract.Statement Instr.rdUnmapped4C := fun _ =>
  readAt_inContract _ _ (by decide) (by decide)
theorem EncodingInContract.wrUnmapped4C (d : Word) : EncodingInContract.Statement (Instr.wrUnmapped4C d) := fun _ =>
  writeAt_inContract _ _ _ (by decide) (by decide)
theorem EncodingInContract.rdUnmapped50 : EncodingInContract.Statement Instr.rdUnmapped50 := fun _ =>
  readAt_inContract _ _ (by decide) (by decide)
theorem EncodingInContract.wrUnmapped50 (d : Word) : EncodingInContract.Statement (Instr.wrUnmapped50 d) := fun _ =>
  writeAt_inContract _ _ _ (by decide) (by decide)
theorem EncodingInContract.rdUnmapped54 : EncodingInContract.Statement Instr.rdUnmapped54 := fun _ =>
  readAt_inContract _ _ (by decide) (by decide)
theorem EncodingInContract.wrUnmapped54 (d : Word) : EncodingInContract.Statement (Instr.wrUnmapped54 d) := fun _ =>
  writeAt_inContract _ _ _ (by decide) (by decide)
theorem EncodingInContract.rdUnmapped58 : EncodingInContract.Statement Instr.rdUnmapped58 := fun _ =>
  readAt_inContract _ _ (by decide) (by decide)
theorem EncodingInContract.wrUnmapped58 (d : Word) : EncodingInContract.Statement (Instr.wrUnmapped58 d) := fun _ =>
  writeAt_inContract _ _ _ (by decide) (by decide)
theorem EncodingInContract.rdUnmapped5C : EncodingInContract.Statement Instr.rdUnmapped5C := fun _ =>
  readAt_inContract _ _ (by decide) (by decide)
theorem EncodingInContract.wrUnmapped5C (d : Word) : EncodingInContract.Statement (Instr.wrUnmapped5C d) := fun _ =>
  writeAt_inContract _ _ _ (by decide) (by decide)
theorem EncodingInContract.rdUnmapped60 : EncodingInContract.Statement Instr.rdUnmapped60 := fun _ =>
  readAt_inContract _ _ (by decide) (by decide)
theorem EncodingInContract.wrUnmapped60 (d : Word) : EncodingInContract.Statement (Instr.wrUnmapped60 d) := fun _ =>
  writeAt_inContract _ _ _ (by decide) (by decide)
theorem EncodingInContract.rdUnmapped64 : EncodingInContract.Statement Instr.rdUnmapped64 := fun _ =>
  readAt_inContract _ _ (by decide) (by decide)
theorem EncodingInContract.wrUnmapped64 (d : Word) : EncodingInContract.Statement (Instr.wrUnmapped64 d) := fun _ =>
  writeAt_inContract _ _ _ (by decide) (by decide)
theorem EncodingInContract.rdUnmapped68 : EncodingInContract.Statement Instr.rdUnmapped68 := fun _ =>
  readAt_inContract _ _ (by decide) (by decide)
theorem EncodingInContract.wrUnmapped68 (d : Word) : EncodingInContract.Statement (Instr.wrUnmapped68 d) := fun _ =>
  writeAt_inContract _ _ _ (by decide) (by decide)
theorem EncodingInContract.rdUnmapped6C : EncodingInContract.Statement Instr.rdUnmapped6C := fun _ =>
  readAt_inContract _ _ (by decide) (by decide)
theorem EncodingInContract.wrUnmapped6C (d : Word) : EncodingInContract.Statement (Instr.wrUnmapped6C d) := fun _ =>
  writeAt_inContract _ _ _ (by decide) (by decide)
theorem EncodingInContract.rdUnmapped70 : EncodingInContract.Statement Instr.rdUnmapped70 := fun _ =>
  readAt_inContract _ _ (by decide) (by decide)
theorem EncodingInContract.wrUnmapped70 (d : Word) : EncodingInContract.Statement (Instr.wrUnmapped70 d) := fun _ =>
  writeAt_inContract _ _ _ (by decide) (by decide)
theorem EncodingInContract.rdUnmapped74 : EncodingInContract.Statement Instr.rdUnmapped74 := fun _ =>
  readAt_inContract _ _ (by decide) (by decide)
theorem EncodingInContract.wrUnmapped74 (d : Word) : EncodingInContract.Statement (Instr.wrUnmapped74 d) := fun _ =>
  writeAt_inContract _ _ _ (by decide) (by decide)
theorem EncodingInContract.rdUnmapped78 : EncodingInContract.Statement Instr.rdUnmapped78 := fun _ =>
  readAt_inContract _ _ (by decide) (by decide)
theorem EncodingInContract.wrUnmapped78 (d : Word) : EncodingInContract.Statement (Instr.wrUnmapped78 d) := fun _ =>
  writeAt_inContract _ _ _ (by decide) (by decide)
theorem EncodingInContract.rdUnmapped7C : EncodingInContract.Statement Instr.rdUnmapped7C := fun _ =>
  readAt_inContract _ _ (by decide) (by decide)
theorem EncodingInContract.wrUnmapped7C (d : Word) : EncodingInContract.Statement (Instr.wrUnmapped7C d) := fun _ =>
  writeAt_inContract _ _ _ (by decide) (by decide)
theorem EncodingInContract.rdUnmapped80 : EncodingInContract.Statement Instr.rdUnmapped80 := fun _ =>
  readAt_inContract _ _ (by decide) (by decide)
theorem EncodingInContract.wrUnmapped80 (d : Word) : EncodingInContract.Statement (Instr.wrUnmapped80 d) := fun _ =>
  writeAt_inContract _ _ _ (by decide) (by decide)
theorem EncodingInContract.rdUnmapped84 : EncodingInContract.Statement Instr.rdUnmapped84 := fun _ =>
  readAt_inContract _ _ (by decide) (by decide)
theorem EncodingInContract.wrUnmapped84 (d : Word) : EncodingInContract.Statement (Instr.wrUnmapped84 d) := fun _ =>
  writeAt_inContract _ _ _ (by decide) (by decide)
theorem EncodingInContract.rdUnmapped88 : EncodingInContract.Statement Instr.rdUnmapped88 := fun _ =>
  readAt_inContract _ _ (by decide) (by decide)
theorem EncodingInContract.wrUnmapped88 (d : Word) : EncodingInContract.Statement (Instr.wrUnmapped88 d) := fun _ =>
  writeAt_inContract _ _ _ (by decide) (by decide)
theorem EncodingInContract.rdUnmapped8C : EncodingInContract.Statement Instr.rdUnmapped8C := fun _ =>
  readAt_inContract _ _ (by decide) (by decide)
theorem EncodingInContract.wrUnmapped8C (d : Word) : EncodingInContract.Statement (Instr.wrUnmapped8C d) := fun _ =>
  writeAt_inContract _ _ _ (by decide) (by decide)
theorem EncodingInContract.rdUnmapped90 : EncodingInContract.Statement Instr.rdUnmapped90 := fun _ =>
  readAt_inContract _ _ (by decide) (by decide)
theorem EncodingInContract.wrUnmapped90 (d : Word) : EncodingInContract.Statement (Instr.wrUnmapped90 d) := fun _ =>
  writeAt_inContract _ _ _ (by decide) (by decide)
theorem EncodingInContract.rdUnmapped94 : EncodingInContract.Statement Instr.rdUnmapped94 := fun _ =>
  readAt_inContract _ _ (by decide) (by decide)
theorem EncodingInContract.wrUnmapped94 (d : Word) : EncodingInContract.Statement (Instr.wrUnmapped94 d) := fun _ =>
  writeAt_inContract _ _ _ (by decide) (by decide)
theorem EncodingInContract.rdUnmapped98 : EncodingInContract.Statement Instr.rdUnmapped98 := fun _ =>
  readAt_inContract _ _ (by decide) (by decide)
theorem EncodingInContract.wrUnmapped98 (d : Word) : EncodingInContract.Statement (Instr.wrUnmapped98 d) := fun _ =>
  writeAt_inContract _ _ _ (by decide) (by decide)
theorem EncodingInContract.rdUnmapped9C : EncodingInContract.Statement Instr.rdUnmapped9C := fun _ =>
  readAt_inContract _ _ (by decide) (by decide)
theorem EncodingInContract.wrUnmapped9C (d : Word) : EncodingInContract.Statement (Instr.wrUnmapped9C d) := fun _ =>
  writeAt_inContract _ _ _ (by decide) (by decide)
theorem EncodingInContract.rdUnmappedA0 : EncodingInContract.Statement Instr.rdUnmappedA0 := fun _ =>
  readAt_inContract _ _ (by decide) (by decide)
theorem EncodingInContract.wrUnmappedA0 (d : Word) : EncodingInContract.Statement (Instr.wrUnmappedA0 d) := fun _ =>
  writeAt_inContract _ _ _ (by decide) (by decide)
theorem EncodingInContract.rdUnmappedA4 : EncodingInContract.Statement Instr.rdUnmappedA4 := fun _ =>
  readAt_inContract _ _ (by decide) (by decide)
theorem EncodingInContract.wrUnmappedA4 (d : Word) : EncodingInContract.Statement (Instr.wrUnmappedA4 d) := fun _ =>
  writeAt_inContract _ _ _ (by decide) (by decide)
theorem EncodingInContract.rdUnmappedA8 : EncodingInContract.Statement Instr.rdUnmappedA8 := fun _ =>
  readAt_inContract _ _ (by decide) (by decide)
theorem EncodingInContract.wrUnmappedA8 (d : Word) : EncodingInContract.Statement (Instr.wrUnmappedA8 d) := fun _ =>
  writeAt_inContract _ _ _ (by decide) (by decide)
theorem EncodingInContract.rdUnmappedAC : EncodingInContract.Statement Instr.rdUnmappedAC := fun _ =>
  readAt_inContract _ _ (by decide) (by decide)
theorem EncodingInContract.wrUnmappedAC (d : Word) : EncodingInContract.Statement (Instr.wrUnmappedAC d) := fun _ =>
  writeAt_inContract _ _ _ (by decide) (by decide)
theorem EncodingInContract.rdUnmappedB0 : EncodingInContract.Statement Instr.rdUnmappedB0 := fun _ =>
  readAt_inContract _ _ (by decide) (by decide)
theorem EncodingInContract.wrUnmappedB0 (d : Word) : EncodingInContract.Statement (Instr.wrUnmappedB0 d) := fun _ =>
  writeAt_inContract _ _ _ (by decide) (by decide)
theorem EncodingInContract.rdUnmappedB4 : EncodingInContract.Statement Instr.rdUnmappedB4 := fun _ =>
  readAt_inContract _ _ (by decide) (by decide)
theorem EncodingInContract.wrUnmappedB4 (d : Word) : EncodingInContract.Statement (Instr.wrUnmappedB4 d) := fun _ =>
  writeAt_inContract _ _ _ (by decide) (by decide)
theorem EncodingInContract.rdUnmappedB8 : EncodingInContract.Statement Instr.rdUnmappedB8 := fun _ =>
  readAt_inContract _ _ (by decide) (by decide)
theorem EncodingInContract.wrUnmappedB8 (d : Word) : EncodingInContract.Statement (Instr.wrUnmappedB8 d) := fun _ =>
  writeAt_inContract _ _ _ (by decide) (by decide)
theorem EncodingInContract.rdUnmappedBC : EncodingInContract.Statement Instr.rdUnmappedBC := fun _ =>
  readAt_inContract _ _ (by decide) (by decide)
theorem EncodingInContract.wrUnmappedBC (d : Word) : EncodingInContract.Statement (Instr.wrUnmappedBC d) := fun _ =>
  writeAt_inContract _ _ _ (by decide) (by decide)
theorem EncodingInContract.rdUnmappedC0 : EncodingInContract.Statement Instr.rdUnmappedC0 := fun _ =>
  readAt_inContract _ _ (by decide) (by decide)
theorem EncodingInContract.wrUnmappedC0 (d : Word) : EncodingInContract.Statement (Instr.wrUnmappedC0 d) := fun _ =>
  writeAt_inContract _ _ _ (by decide) (by decide)
theorem EncodingInContract.rdUnmappedC4 : EncodingInContract.Statement Instr.rdUnmappedC4 := fun _ =>
  readAt_inContract _ _ (by decide) (by decide)
theorem EncodingInContract.wrUnmappedC4 (d : Word) : EncodingInContract.Statement (Instr.wrUnmappedC4 d) := fun _ =>
  writeAt_inContract _ _ _ (by decide) (by decide)
theorem EncodingInContract.rdUnmappedC8 : EncodingInContract.Statement Instr.rdUnmappedC8 := fun _ =>
  readAt_inContract _ _ (by decide) (by decide)
theorem EncodingInContract.wrUnmappedC8 (d : Word) : EncodingInContract.Statement (Instr.wrUnmappedC8 d) := fun _ =>
  writeAt_inContract _ _ _ (by decide) (by decide)
theorem EncodingInContract.rdUnmappedCC : EncodingInContract.Statement Instr.rdUnmappedCC := fun _ =>
  readAt_inContract _ _ (by decide) (by decide)
theorem EncodingInContract.wrUnmappedCC (d : Word) : EncodingInContract.Statement (Instr.wrUnmappedCC d) := fun _ =>
  writeAt_inContract _ _ _ (by decide) (by decide)
theorem EncodingInContract.rdUnmappedD0 : EncodingInContract.Statement Instr.rdUnmappedD0 := fun _ =>
  readAt_inContract _ _ (by decide) (by decide)
theorem EncodingInContract.wrUnmappedD0 (d : Word) : EncodingInContract.Statement (Instr.wrUnmappedD0 d) := fun _ =>
  writeAt_inContract _ _ _ (by decide) (by decide)
theorem EncodingInContract.rdUnmappedD4 : EncodingInContract.Statement Instr.rdUnmappedD4 := fun _ =>
  readAt_inContract _ _ (by decide) (by decide)
theorem EncodingInContract.wrUnmappedD4 (d : Word) : EncodingInContract.Statement (Instr.wrUnmappedD4 d) := fun _ =>
  writeAt_inContract _ _ _ (by decide) (by decide)
theorem EncodingInContract.rdUnmappedD8 : EncodingInContract.Statement Instr.rdUnmappedD8 := fun _ =>
  readAt_inContract _ _ (by decide) (by decide)
theorem EncodingInContract.wrUnmappedD8 (d : Word) : EncodingInContract.Statement (Instr.wrUnmappedD8 d) := fun _ =>
  writeAt_inContract _ _ _ (by decide) (by decide)
theorem EncodingInContract.rdUnmappedDC : EncodingInContract.Statement Instr.rdUnmappedDC := fun _ =>
  readAt_inContract _ _ (by decide) (by decide)
theorem EncodingInContract.wrUnmappedDC (d : Word) : EncodingInContract.Statement (Instr.wrUnmappedDC d) := fun _ =>
  writeAt_inContract _ _ _ (by decide) (by decide)
theorem EncodingInContract.rdUnmappedE0 : EncodingInContract.Statement Instr.rdUnmappedE0 := fun _ =>
  readAt_inContract _ _ (by decide) (by decide)
theorem EncodingInContract.wrUnmappedE0 (d : Word) : EncodingInContract.Statement (Instr.wrUnmappedE0 d) := fun _ =>
  writeAt_inContract _ _ _ (by decide) (by decide)
theorem EncodingInContract.rdUnmappedE4 : EncodingInContract.Statement Instr.rdUnmappedE4 := fun _ =>
  readAt_inContract _ _ (by decide) (by decide)
theorem EncodingInContract.wrUnmappedE4 (d : Word) : EncodingInContract.Statement (Instr.wrUnmappedE4 d) := fun _ =>
  writeAt_inContract _ _ _ (by decide) (by decide)
theorem EncodingInContract.rdUnmappedE8 : EncodingInContract.Statement Instr.rdUnmappedE8 := fun _ =>
  readAt_inContract _ _ (by decide) (by decide)
theorem EncodingInContract.wrUnmappedE8 (d : Word) : EncodingInContract.Statement (Instr.wrUnmappedE8 d) := fun _ =>
  writeAt_inContract _ _ _ (by decide) (by decide)
theorem EncodingInContract.rdUnmappedEC : EncodingInContract.Statement Instr.rdUnmappedEC := fun _ =>
  readAt_inContract _ _ (by decide) (by decide)
theorem EncodingInContract.wrUnmappedEC (d : Word) : EncodingInContract.Statement (Instr.wrUnmappedEC d) := fun _ =>
  writeAt_inContract _ _ _ (by decide) (by decide)
theorem EncodingInContract.rdUnmappedF0 : EncodingInContract.Statement Instr.rdUnmappedF0 := fun _ =>
  readAt_inContract _ _ (by decide) (by decide)
theorem EncodingInContract.wrUnmappedF0 (d : Word) : EncodingInContract.Statement (Instr.wrUnmappedF0 d) := fun _ =>
  writeAt_inContract _ _ _ (by decide) (by decide)
theorem EncodingInContract.rdUnmappedF4 : EncodingInContract.Statement Instr.rdUnmappedF4 := fun _ =>
  readAt_inContract _ _ (by decide) (by decide)
theorem EncodingInContract.wrUnmappedF4 (d : Word) : EncodingInContract.Statement (Instr.wrUnmappedF4 d) := fun _ =>
  writeAt_inContract _ _ _ (by decide) (by decide)
theorem EncodingInContract.rdUnmappedF8 : EncodingInContract.Statement Instr.rdUnmappedF8 := fun _ =>
  readAt_inContract _ _ (by decide) (by decide)
theorem EncodingInContract.wrUnmappedF8 (d : Word) : EncodingInContract.Statement (Instr.wrUnmappedF8 d) := fun _ =>
  writeAt_inContract _ _ _ (by decide) (by decide)
theorem EncodingInContract.rdUnmappedFC : EncodingInContract.Statement Instr.rdUnmappedFC := fun _ =>
  readAt_inContract _ _ (by decide) (by decide)
theorem EncodingInContract.wrUnmappedFC (d : Word) : EncodingInContract.Statement (Instr.wrUnmappedFC d) := fun _ =>
  writeAt_inContract _ _ _ (by decide) (by decide)

end Sys2Proof.Laws
end

