-- ==== Sys2Proof/Tests/Slice0.lean ====
section
/-! SUPPORT. Tests: the decoding of every operation from a transaction written out from the spec's encoding of it, the
ill-formed terms each check refuses, one-step results taken from the spec's examples and vectors, and for every
obligation with hypotheses a state that meets them all. -/

namespace Sys2Proof.Tests

open Sys2Proof Sys2Proof.Machine

/-! ## Decoding: addresses and byte lanes written out from R22, R72, R74, R91 (base address 0x100) -/

/-- The six legal CMD words (R91, R97), on their byte lanes (R74). -/
theorem test_decode_commands :
    decode 0x100 (.write 0x10C [0x00, 0, 0, 0]) = .ok Instr.nop
      ∧ decode 0x100 (.write 0x10C [0x01, 0, 0, 0]) = .ok Instr.decomp
      ∧ decode 0x100 (.write 0x10C [0x02, 0, 0, 0]) = .ok Instr.comp
      ∧ decode 0x100 (.write 0x10C [0x12, 0, 0, 0]) = .ok Instr.compP
      ∧ decode 0x100 (.write 0x10C [0x03, 0, 0, 0]) = .ok Instr.unpack
      ∧ decode 0x100 (.write 0x10C [0x04, 0, 0, 0]) = .ok Instr.drow := by decide

/-- Reads at addresses 0x100 to 0x13C. -/
theorem test_decode_reads_00 : ∀ p ∈
    [(0x100, Instr.rdId), (0x104, Instr.rdCtrl), (0x108, Instr.rdStatus), (0x10C, Instr.rdCmd),
      (0x110, Instr.rdLen), (0x114, Instr.rdGeom), (0x118, Instr.rdWidth), (0x11C, Instr.rdIrqEn),
      (0x120, Instr.rdInData), (0x124, Instr.rdInCtrl), (0x128, Instr.rdOutData), (0x12C, Instr.rdIdxData),
      (0x130, Instr.rdLevels), (0x134, Instr.rdSlbAddr), (0x138, Instr.rdSlbData), (0x13C, Instr.rdInCount)],
    decode 0x100 (.read p.1 4) = .ok p.2 := by decide

/-- Reads at addresses 0x140 to 0x17C. -/
theorem test_decode_reads_40 : ∀ p ∈
    [(0x140, Instr.rdOutCount), (0x144, Instr.rdSlbCount), (0x148, Instr.rdIdxCount), (0x14C, Instr.rdUnmapped4C),
      (0x150, Instr.rdUnmapped50), (0x154, Instr.rdUnmapped54), (0x158, Instr.rdUnmapped58), (0x15C, Instr.rdUnmapped5C),
      (0x160, Instr.rdUnmapped60), (0x164, Instr.rdUnmapped64), (0x168, Instr.rdUnmapped68), (0x16C, Instr.rdUnmapped6C),
      (0x170, Instr.rdUnmapped70), (0x174, Instr.rdUnmapped74), (0x178, Instr.rdUnmapped78), (0x17C, Instr.rdUnmapped7C)],
    decode 0x100 (.read p.1 4) = .ok p.2 := by decide

/-- Reads at addresses 0x180 to 0x1BC. -/
theorem test_decode_reads_80 : ∀ p ∈
    [(0x180, Instr.rdUnmapped80), (0x184, Instr.rdUnmapped84), (0x188, Instr.rdUnmapped88), (0x18C, Instr.rdUnmapped8C),
      (0x190, Instr.rdUnmapped90), (0x194, Instr.rdUnmapped94), (0x198, Instr.rdUnmapped98), (0x19C, Instr.rdUnmapped9C),
      (0x1A0, Instr.rdUnmappedA0), (0x1A4, Instr.rdUnmappedA4), (0x1A8, Instr.rdUnmappedA8), (0x1AC, Instr.rdUnmappedAC),
      (0x1B0, Instr.rdUnmappedB0), (0x1B4, Instr.rdUnmappedB4), (0x1B8, Instr.rdUnmappedB8), (0x1BC, Instr.rdUnmappedBC)],
    decode 0x100 (.read p.1 4) = .ok p.2 := by decide

/-- Reads at addresses 0x1C0 to 0x1FC. -/
theorem test_decode_reads_C0 : ∀ p ∈
    [(0x1C0, Instr.rdUnmappedC0), (0x1C4, Instr.rdUnmappedC4), (0x1C8, Instr.rdUnmappedC8), (0x1CC, Instr.rdUnmappedCC),
      (0x1D0, Instr.rdUnmappedD0), (0x1D4, Instr.rdUnmappedD4), (0x1D8, Instr.rdUnmappedD8), (0x1DC, Instr.rdUnmappedDC),
      (0x1E0, Instr.rdUnmappedE0), (0x1E4, Instr.rdUnmappedE4), (0x1E8, Instr.rdUnmappedE8), (0x1EC, Instr.rdUnmappedEC),
      (0x1F0, Instr.rdUnmappedF0), (0x1F4, Instr.rdUnmappedF4), (0x1F8, Instr.rdUnmappedF8), (0x1FC, Instr.rdUnmappedFC)],
    decode 0x100 (.read p.1 4) = .ok p.2 := by decide

/-- Writes of 0x80C30012 (lanes 0x12, 0x00, 0xC3, 0x80) at addresses 0x100 to 0x13C. -/
theorem test_decode_writes_00 : ∀ p ∈
    [(0x100, Instr.wrId 0x80C30012), (0x104, Instr.wrCtrl 0x80C30012), (0x108, Instr.wrStatus 0x80C30012),
      (0x10C, Instr.wrCmd 0x80C30012), (0x110, Instr.wrLen 0x80C30012), (0x114, Instr.wrGeom 0x80C30012),
      (0x118, Instr.wrWidth 0x80C30012), (0x11C, Instr.wrIrqEn 0x80C30012), (0x120, Instr.wrInData 0x80C30012),
      (0x124, Instr.wrInCtrl 0x80C30012), (0x128, Instr.wrOutData 0x80C30012), (0x12C, Instr.wrIdxData 0x80C30012),
      (0x130, Instr.wrLevels 0x80C30012), (0x134, Instr.wrSlbAddr 0x80C30012), (0x138, Instr.wrSlbData 0x80C30012),
      (0x13C, Instr.wrInCount 0x80C30012)],
    decode 0x100 (.write p.1 [0x12, 0x00, 0xC3, 0x80]) = .ok p.2 := by decide

/-- Writes of 0x80C30012 (lanes 0x12, 0x00, 0xC3, 0x80) at addresses 0x140 to 0x17C. -/
theorem test_decode_writes_40 : ∀ p ∈
    [(0x140, Instr.wrOutCount 0x80C30012), (0x144, Instr.wrSlbCount 0x80C30012), (0x148, Instr.wrIdxCount 0x80C30012),
      (0x14C, Instr.wrUnmapped4C 0x80C30012), (0x150, Instr.wrUnmapped50 0x80C30012), (0x154, Instr.wrUnmapped54 0x80C30012),
      (0x158, Instr.wrUnmapped58 0x80C30012), (0x15C, Instr.wrUnmapped5C 0x80C30012), (0x160, Instr.wrUnmapped60 0x80C30012),
      (0x164, Instr.wrUnmapped64 0x80C30012), (0x168, Instr.wrUnmapped68 0x80C30012), (0x16C, Instr.wrUnmapped6C 0x80C30012),
      (0x170, Instr.wrUnmapped70 0x80C30012), (0x174, Instr.wrUnmapped74 0x80C30012), (0x178, Instr.wrUnmapped78 0x80C30012),
      (0x17C, Instr.wrUnmapped7C 0x80C30012)],
    decode 0x100 (.write p.1 [0x12, 0x00, 0xC3, 0x80]) = .ok p.2 := by decide

/-- Writes of 0x80C30012 (lanes 0x12, 0x00, 0xC3, 0x80) at addresses 0x180 to 0x1BC. -/
theorem test_decode_writes_80 : ∀ p ∈
    [(0x180, Instr.wrUnmapped80 0x80C30012), (0x184, Instr.wrUnmapped84 0x80C30012), (0x188, Instr.wrUnmapped88 0x80C30012),
      (0x18C, Instr.wrUnmapped8C 0x80C30012), (0x190, Instr.wrUnmapped90 0x80C30012), (0x194, Instr.wrUnmapped94 0x80C30012),
      (0x198, Instr.wrUnmapped98 0x80C30012), (0x19C, Instr.wrUnmapped9C 0x80C30012), (0x1A0, Instr.wrUnmappedA0 0x80C30012),
      (0x1A4, Instr.wrUnmappedA4 0x80C30012), (0x1A8, Instr.wrUnmappedA8 0x80C30012), (0x1AC, Instr.wrUnmappedAC 0x80C30012),
      (0x1B0, Instr.wrUnmappedB0 0x80C30012), (0x1B4, Instr.wrUnmappedB4 0x80C30012), (0x1B8, Instr.wrUnmappedB8 0x80C30012),
      (0x1BC, Instr.wrUnmappedBC 0x80C30012)],
    decode 0x100 (.write p.1 [0x12, 0x00, 0xC3, 0x80]) = .ok p.2 := by decide

/-- Writes of 0x80C30012 (lanes 0x12, 0x00, 0xC3, 0x80) at addresses 0x1C0 to 0x1FC. -/
theorem test_decode_writes_C0 : ∀ p ∈
    [(0x1C0, Instr.wrUnmappedC0 0x80C30012), (0x1C4, Instr.wrUnmappedC4 0x80C30012), (0x1C8, Instr.wrUnmappedC8 0x80C30012),
      (0x1CC, Instr.wrUnmappedCC 0x80C30012), (0x1D0, Instr.wrUnmappedD0 0x80C30012), (0x1D4, Instr.wrUnmappedD4 0x80C30012),
      (0x1D8, Instr.wrUnmappedD8 0x80C30012), (0x1DC, Instr.wrUnmappedDC 0x80C30012), (0x1E0, Instr.wrUnmappedE0 0x80C30012),
      (0x1E4, Instr.wrUnmappedE4 0x80C30012), (0x1E8, Instr.wrUnmappedE8 0x80C30012), (0x1EC, Instr.wrUnmappedEC 0x80C30012),
      (0x1F0, Instr.wrUnmappedF0 0x80C30012), (0x1F4, Instr.wrUnmappedF4 0x80C30012), (0x1F8, Instr.wrUnmappedF8 0x80C30012),
      (0x1FC, Instr.wrUnmappedFC 0x80C30012)],
    decode 0x100 (.write p.1 [0x12, 0x00, 0xC3, 0x80]) = .ok p.2 := by decide
/-- Accesses outside R71 are rejected by name: below and above the aperture, the wrong width, misaligned. -/
theorem test_decode_rejects :
    decode 0x100 (.read 0xFF 4) = .error .outsideAperture
      ∧ decode 0x100 (.read 0x200 4) = .error .outsideAperture
      ∧ decode 0x100 (.read 0x108 8) = .error .accessWidth
      ∧ decode 0x100 (.write 0x108 [1, 2]) = .error .accessWidth
      ∧ decode 0x100 (.read 0x10A 4) = .error .misaligned
      ∧ decode 0x100 (.write 0x1FF [1, 2, 3, 4]) = .error .misaligned := by decide

/-- A CMD row's 32 bits are the word written to CMD; an MMIO row's 8 bits are the offset, read (log entry 6). -/
theorem test_decode_table_words :
    decodeTableWord 32 0x12 = some .compP ∧ decodeTableWord 32 5 = some (.wrCmd 5)
      ∧ decodeTableWord 8 0x08 = some .rdStatus ∧ decodeTableWord 8 0xFC = some .rdUnmappedFC
      ∧ decodeTableWord 16 0x08 = none := by decide

/-- A small block at 0x100: FIFOs of 4, 8 and 8 entries, 16 SLB bytes. -/
def boot : State := State.powerUp ⟨0x100, 4, 8, 8, 16⟩

/-- What `f` reads of the state a step leaves; none where it leaves no next state. -/
def got {α : Type} (r : Result) (f : State → α) : Option α :=
  match r with
  | .next s => some (f s)
  | .fault _ => none
  | .refused _ => none

/-- Why a step refuses; none where it does not. -/
def refusal (r : Result) : Option Refusal :=
  match r with
  | .refused w => some w
  | .next _ => none
  | .fault _ => none

/-- `withFetchWord` makes the row's access the very next step. -/
theorem test_fetch_word_runs :
    got (step (State.reset.withFetchWord 32 1)) (fun s => (s.phase, s.events)) = some (.dec, [])
      ∧ got (step (State.reset.withFetchWord 8 0)) (fun s => (s.rdata, s.events)) = some (0x524C4501, []) := by decide

/-! ## WellFormed: each check refuses an ill-formed term -/

/-- A legal word is not an operand of `wrCmd`; an illegal one is. -/
theorem test_wf_wrCmd :
    (Instr.wrCmd 0x12).wf = false ∧ (Instr.wrCmd 0).wf = false ∧ (Instr.wrCmd 0x11).wf = true
      ∧ (Instr.wrStatus 0x12).wf = true := by decide

/-- The interface contract (R71). -/
theorem test_contract :
    BusAccess.inContract 0x100 (.read 0x1FC 4) = true ∧ BusAccess.inContract 0x100 (.read 0x200 4) = false
      ∧ BusAccess.inContract 0x100 (.read 0xFC 4) = false ∧ BusAccess.inContract 0x100 (.read 0x104 2) = false
      ∧ BusAccess.inContract 0x100 (.read 0x106 4) = false
      ∧ BusAccess.inContract 0x100 (.write 0x104 [0, 0, 0]) = false
      ∧ BusAccess.inContract 0x100 (.write 0x105 [0, 0, 0, 0]) = false := by decide

/-- The constraints on the parameters (R6), each broken by one. -/
theorem test_params :
    Params.default.valid = true ∧ Params.valid ⟨0x101, 16, 16, 16, 1⟩ = false
      ∧ Params.valid ⟨0x100, 0, 16, 16, 1⟩ = false ∧ Params.valid ⟨0x100, 65536, 16, 16, 1⟩ = false
      ∧ Params.valid ⟨0x100, 16, 1, 16, 1⟩ = false ∧ Params.valid ⟨0x100, 16, 65536, 16, 1⟩ = false
      ∧ Params.valid ⟨0x100, 16, 16, 0, 1⟩ = false ∧ Params.valid ⟨0x100, 16, 16, 65536, 1⟩ = false
      ∧ Params.valid ⟨0x100, 16, 16, 16, 0⟩ = false ∧ Params.valid ⟨0x100, 16, 16, 16, 262145⟩ = false := by decide

/-! ## One step -/

/-- R240's example: NOP leaves DONE and SLB_COUNT. -/
theorem test_nop : 
    got (exec .nop { boot with done := true, slbCount := 3 }) id = some { boot with done := true, slbCount := 3 } := by
  decide

/-- R121's example, at 16 SLB bytes: LEN = 17 fails with code 6 and LEN = 16 is accepted. -/
theorem test_decomp_length_check :
    got (exec .decomp { boot with len := 17 }) (fun s => (s.phase, s.errcode, s.err)) = some (.idle, .lenRange, true)
      ∧ got (exec .decomp { boot with len := 16 }) (fun s => (s.phase, s.lN, s.err)) = some (.dec, 16, false) := by
  decide

/-- R170: the start latches LEN and P, and clears the last command's DONE and counters (R232). -/
theorem test_comp_starts :
    got (exec .comp { boot with len := 5, done := true, inCount := 9 })
        (fun s => (s.phase, s.lLen, s.lPad, s.done, s.inCount)) = some (.cmp, 5, false, false, 0)
      ∧ got (exec .compP { boot with len := 5 }) (fun s => (s.phase, s.lLen, s.lPad)) = some (.cmp, 5, true) := by
  decide

/-- R259 case 3: BPS = 0 and PLANES = 0 is code 3; R204: too narrow a scanline is code 4. -/
theorem test_unpack_checks :
    got (exec .unpack boot) (fun s => s.errcode) = some .unsupportedBitDepth
      ∧ got (exec .unpack { boot with bps := 2, planes := 1, bpl := 1, width := 5 }) (fun s => s.errcode)
        = some .corruptDimensions
      ∧ got (exec .unpack { boot with bps := 3, planes := 1, bpl := 2, width := 5 }) (fun s => s.errcode)
        = some .unsupportedVariant
      ∧ got (exec .unpack { boot with bps := 2, planes := 1, bpl := 17, width := 5 }) (fun s => s.errcode)
        = some .lenRange := by decide

/-- R242's example: SETGEOM 1, 2, 1 with WIDTH = 8 enters DEC with L_N = 2. -/
theorem test_drow_starts :
    got (exec .drow { boot with bps := 1, planes := 2, bpl := 1, width := 8 }) (fun s => (s.phase, s.op, s.lN))
      = some (.dec, .drow, 2) := by decide

/-- R257's example: `WR CMD, 0x5` while idle gives STATUS = 0x704; while busy it only sets HERR (R260). -/
theorem test_illegal_command :
    got (exec (.wrCmd 5) boot) State.statusWord = some 0x00000704
      ∧ got (exec (.wrCmd 5) { boot with phase := .dec }) (fun s => (s.err, s.herr)) = some (false, true) := by decide

/-- R111's example. -/
theorem test_rdId : got (exec .rdId boot) (·.rdata) = some 0x524C4501 := by decide

/-- R112's example: SRST during DEC leaves the block idle, its FIFOs empty and the SLB unchanged; 0 does nothing. -/
theorem test_wrCtrl :
    got (exec (.wrCtrl 1) { boot with phase := .dec, inFifo := [1], slb := [(0, 7)] })
        (fun s => (s.phase, s.inFifo, s.slb)) = some (.idle, [], [(0, 7)])
      ∧ got (exec (.wrCtrl 0xFFFFFFFE) { boot with inFifo := [1] }) id = some { boot with inFifo := [1] } := by decide

/-- R113's example: after an overrun STATUS reads 0x204. -/
theorem test_rdStatus :
    got (exec .rdStatus { boot with err := true, errcode := .runOverrun }) (·.rdata) = some 0x00000204
      ∧ got (exec .rdStatus { boot with phase := .cmp, lLen := 1, herr := true, herrIe := true }) (·.rdata)
        = some 0x00020059 := by decide

/-- R114's example: bit 2 clears ERR and ERRCODE, with DONE and HERR unchanged. -/
theorem test_wrStatus :
    got (exec (.wrStatus 4) { boot with err := true, errcode := .runOverrun, herr := true })
      (fun s => (s.err, s.errcode, s.herr)) = some (false, .none, true) := by decide

/-- R122: bits 15:8 of GEOM read 0; R123's example; R37: SLB_ADDR keeps 18 bits. -/
theorem test_fields :
    got (exec (.wrGeom 0x0028FF41) boot) State.geomWord = some 0x00280041
      ∧ got (exec (.wrWidth 0x20005) boot) (·.width) = some 5
      ∧ got (exec (.wrSlbAddr 0xFFFFFFFF) boot) (·.slbAddr) = some 0x3FFFF
      ∧ got (exec (.wrLen 0xFFFFFFFF) boot) (·.len) = some 0xFFFFFFFF := by decide

/-- R124's example: with ERR = 1, enabling it raises IRQ; bit 0 and bits 31:4 are not stored. -/
theorem test_wrIrqEn :
    got (exec (.wrIrqEn 4) { boot with err := true, errcode := .runOverrun }) State.irq = some true
      ∧ got (exec (.wrIrqEn 0xFFFFFFFF) boot) State.irqEnWord = some 0xE := by decide

/-- R115's example; a push to a full FIFO is lost and sets HERR. -/
theorem test_wrInData :
    got (exec (.wrInData 0x1C3) boot) (·.inFifo) = some [0xC3]
      ∧ got (exec (.wrInData 9) { boot with inFifo := [1, 2, 3, 4] }) (fun s => (s.inFifo, s.herr))
        = some ([1, 2, 3, 4], true) := by decide

/-- R117's corner case: 0x3 while idle leaves an empty FIFO with EOS = 1; while busy HERR and EOS, the bytes kept. -/
theorem test_wrInCtrl :
    got (exec (.wrInCtrl 3) { boot with inFifo := [1] }) (fun s => (s.inFifo, s.eos, s.herr)) = some ([], true, false)
      ∧ got (exec (.wrInCtrl 3) { boot with inFifo := [1], phase := .dec }) (fun s => (s.inFifo, s.eos, s.herr))
        = some ([1], true, true) := by decide

/-- R116's and R118's examples. -/
theorem test_levels :
    got (exec .rdInCtrl { boot with inFifo := [1, 2, 3], eos := true }) (·.rdata) = some 0x00030001
      ∧ got (exec .rdLevels { boot with outFifo := [5], idxFifo := [7, 7] }) (·.rdata) = some 0x00020001 := by decide

/-- R119's and R120's examples: the oldest entry with VALID, and 0 from an empty FIFO. -/
theorem test_pops :
    got (exec .rdOutData { boot with outFifo := [0xC1, 0xC5] }) (fun s => (s.rdata, s.outFifo)) = some (0x1C1, [0xC5])
      ∧ got (exec .rdOutData { boot with rdata := 9 }) (·.rdata) = some 0
      ∧ got (exec .rdIdxData { boot with idxFifo := [7] }) (fun s => (s.rdata, s.idxFifo)) = some (0x107, []) := by
  decide

/-- R126's example, and the address beyond the SLB at the top, where SLB_ADDR wraps. -/
theorem test_rdSlbData :
    got (exec .rdSlbData { boot with slb := [(2, 7)], slbAddr := 2 }) (fun s => (s.rdata, s.slbAddr)) = some (7, 3)
      ∧ got (exec .rdSlbData { boot with slbAddr := 0x3FFFF }) (fun s => (s.rdata, s.slbAddr, s.herr))
        = some (0, 0, true) := by decide

/-- R127's example, and the refusal while busy. -/
theorem test_wrSlbData :
    got (exec (.wrSlbData 0x1A5) boot) (fun s => (s.slb, s.slbAddr)) = some ([(0, 0xA5)], 1)
      ∧ got (exec (.wrSlbData 0xA5) { boot with phase := .unp }) (fun s => (s.slb, s.slbAddr, s.herr))
        = some ([], 0, true) := by decide

/-- R130's example, and R72. -/
theorem test_quiet :
    got (exec (.wrOutData 0x55) { boot with outFifo := [1] }) id = some { boot with outFifo := [1] }
      ∧ got (exec .rdUnmapped4C { boot with rdata := 9 }) (fun s => (s.rdata, s.herr)) = some (0, false)
      ∧ got (exec (.wrUnmappedFC 0x55) boot) id = some boot := by decide

/-! ## One engine step -/

/-- A DECOMP of LEN 3 in progress. -/
def decS : State := { boot with phase := .dec, op := .decomp, lN := 3 }

/-- A COMP of LEN 3 in progress. -/
def cmpS : State := { boot with phase := .cmp, op := .comp, lLen := 3 }

/-- An UNPACK of R200's example in progress: BPS 2, PLANES 1, BPL 2, WIDTH 5. -/
def unpS : State :=
  { boot with
    phase := .unp, op := .unpack, lBps := 2, lPlanes := 1, lBpl := 2, lWidth := 5, slb := [(0, 0x1B), (1, 0xE4)] }

/-- R140's example in its two steps: the count byte is kept, the value byte writes three copies. -/
theorem test_dec_run :
    got (step { decS with inFifo := [0xC3, 7] }) (fun s => (s.dWait, s.dCnt, s.inCount)) = some (true, 3, 1)
      ∧ got (step { decS with inFifo := [7], dWait := true, dCnt := 3, inCount := 1 })
          (fun s => (s.slb, s.slbCount, s.inCount, s.dWait)) = some ([(0, 7), (1, 7), (2, 7)], 3, 2, false) := by
  decide

/-- R128's example: an overrun of 4 into 3 writes the three copies and fails with code 2. -/
theorem test_dec_overrun :
    got (step { decS with inFifo := [9, 1], dWait := true, dCnt := 4, inCount := 1 })
      (fun s => (s.slb, s.slbCount, s.inCount, s.errcode, s.phase))
        = some ([(0, 9), (1, 9), (2, 9)], 3, 2, .runOverrun, .idle) := by decide

/-- R147: a zero count writes nothing; R146: the end of the stream after a count byte is a truncation. -/
theorem test_dec_zero_and_truncation :
    got (step { decS with inFifo := [9, 1], dWait := true, dCnt := 0 }) (fun s => (s.slb, s.slbCount, s.phase))
        = some ([], 0, .dec)
      ∧ got (step { decS with dWait := true, dCnt := 3, eos := true }) (fun s => (s.errcode, s.dWait, s.dCnt))
        = some (.streamTruncated, false, 0) := by decide

/-- R175: the 63rd byte of a run emits it at once; R119's example: a single 0xC5 is flushed as 0xC1 0xC5. -/
theorem test_cmp_emission :
    got (step { cmpS with lLen := 100, inCount := 62, inFifo := [2], cHave := true, cVal := 2, cCnt := 62 })
        (fun s => (s.outFifo, s.cHave, s.outCount)) = some ([0xFF, 2], false, 2)
      ∧ got (step { cmpS with inCount := 3, cHave := true, cVal := 0xC5, cCnt := 1 })
        (fun s => (s.outFifo, s.done, s.phase)) = some ([0xC1, 0xC5], true, .idle) := by decide

/-- R174: the padding byte extends a run of zeros, and is not counted in IN_COUNT. -/
theorem test_cmp_pad :
    got (step { cmpS with lPad := true, inCount := 3, cHave := true, cVal := 0, cCnt := 1 })
      (fun s => (s.cCnt, s.cPadDone, s.inCount)) = some (2, true, 3) := by decide

/-- R200's example: BPS 2 over 0x1B 0xE4 gives the indices 0 1 2 3 3; here the first and the last. -/
theorem test_unp_index :
    got (step unpS) (fun s => (s.idxFifo, s.idxCount)) = some ([0], 1)
      ∧ got (step { unpS with idxCount := 4 }) (fun s => (s.idxFifo, s.idxCount)) = some ([3], 5)
      ∧ got (step { unpS with idxCount := 5 }) (fun s => (s.done, s.phase)) = some (true, .idle) := by decide

/-- R214's example: four planes of one byte. -/
theorem test_planar_indices :
    (List.range 8).map (indexOf (fun a => [0xFF#8, 0x0F, 0x33, 0x55].getD a 0) .planar 1 4 1)
      = [1, 9, 5, 13, 3, 11, 7, 15] := by decide

/-- R212's example: BPS 4 over 0x12. -/
theorem test_sub_indices :
    (List.range 2).map (indexOf (fun _ => 0x12) .sub 4 1 1) = [1, 2] := by decide

/-- The reference functions on R170's, R140's and R152's examples. -/
theorem test_reference :
    rleEncode [1, 2, 2, 2, 3] = [1, 0xC3, 2, 3]
      ∧ rleDecode [0xC3, 7] 3 = ⟨[7, 7, 7], 2, .none⟩ ∧ rleDecode [0xC2, 0xC2] 2 = ⟨[0xC2, 0xC2], 2, .none⟩
      ∧ rleDecode [0xC4, 9] 2 = ⟨[9, 9], 2, .runOverrun⟩ := by decide

/-- A host access outside the contract is refused (R71), and a reset event resets (R280). -/
theorem test_step_refuses_and_resets :
    refusal (step { boot with events := [.host (.read 0x109 4)] }) = some (.badAccess .misaligned)
      ∧ got (step { decS with events := [.hardReset, .engine] }) (fun s => (s.phase, s.events.length))
        = some (.idle, 1) := by decide

/-! ## Witnesses: states and operands that meet the hypotheses of each obligation together

`inv_<name>` shows that the state meets the invariant; an obligation whose only hypothesis is the invariant has these
as its witnesses. -/

/-- An idle block after a DECOMP, with a row ready and bytes queued. -/
def idleS : State :=
  { boot with
    done := true, bps := 2, planes := 1, bpl := 2, width := 5, len := 2, inFifo := [0xC2, 0x1B, 0x40]
    slb := [(0, 0x1B), (1, 0xE4)], slbAddr := 15 }

theorem inv_idle : idleS.Inv :=
  ⟨by decide, by decide, by decide, by decide, by decide, by decide, by decide, by decide, by decide⟩

theorem inv_dec : decS.Inv :=
  ⟨by decide, by decide, by decide, by decide, by decide, by decide, by decide, by decide, by decide⟩

theorem inv_cmp : cmpS.Inv :=
  ⟨by decide, by decide, by decide, by decide, by decide, by decide, by decide, by decide, by decide⟩

theorem inv_unp : unpS.Inv :=
  ⟨by decide, by decide, by decide, by decide, by decide, by decide, by decide, by decide, by decide⟩

theorem witness_DecodeOfEncode : Instr.drow.wf = true ∧ (Instr.wrCmd 5).wf = true ∧ (Instr.wrLen 0xFFFFFFFF).wf = true := by
  decide

theorem witness_EncodeOfDecode : decode 0x100 (.write 0x10C [0x05, 0, 0, 0]) = .ok (.wrCmd 5) := by decide

theorem witness_DecodesExactlyInContract :
    decode 0x100 (.read 0x1FC 4) = .ok .rdUnmappedFC ∧ BusAccess.inContract 0x100 (.read 0x1FD 4) = false := by decide

theorem witness_SixLegalCommandWords :
    illegalCmd 0x12 = false ∧ illegalCmd 0x11 = true ∧ illegalCmd 5 = true ∧ illegalCmd 0x20 = true
      ∧ illegalCmd 4 = false := by decide

theorem witness_StepPerformsDecodedAccess :
    ({ boot with events := [.host (.read 0x108 4)] } : State).events = .host (.read 0x108 4) :: []
      ∧ decode boot.params.baseAddr (.read 0x108 4) = .ok .rdStatus := by decide

theorem witness_StepRefusesExactlyOutsideContract :
    refusal (step { boot with events := [.host (.read 0x200 4)] }) = some (.badAccess .outsideAperture) := by decide

/-- An idle state; and a turn of the engine before a host access, which leaves the access on the list. -/
theorem witness_EngineTurnsInAnySchedule :
    idleS.phase = .idle
      ∧ got (step { unpS with events := [.engine, .host (.read 0x108 4)] }) (fun s => (s.idxFifo, s.events))
        = some ([0], [.host (.read 0x108 4)])
      ∧ got (step unpS) (fun s => (s.idxFifo, s.events)) = some ([0], []) := by decide

theorem witness_CtrlWriteResets : (0xFFFFFFFE : Word).getLsbD 0 = false ∧ (1 : Word).getLsbD 0 = true := by decide

theorem witness_HardResetEqualsSoftReset :
    ({ decS with events := [.hardReset] } : State).events = .hardReset :: [] ∧ (1 : Word).getLsbD 0 = true := by decide

/-- Each hold of R290 occurs: for input in DEC and CMP, for output in CMP (three cases) and UNP. -/
theorem witness_WaitFlagsAreTheHolds :
    decS.inWait = true ∧ cmpS.inWait = true
      ∧ ({ cmpS with inFifo := [1], outFifo := [0, 0, 0, 0, 0, 0, 0] } : State).outWait = true
      ∧ ({ cmpS with lPad := true, inCount := 3, outFifo := [0, 0, 0, 0, 0, 0, 0] } : State).outWait = true
      ∧ ({ cmpS with inCount := 3, cHave := true, cCnt := 1, outFifo := [0, 0, 0, 0, 0, 0, 0] } : State).outWait = true
      ∧ ({ unpS with idxFifo := [0, 0, 0, 0, 0, 0, 0, 0] } : State).outWait = true := by decide

theorem witness_UnmappedOffsetsAreQuiet :
    decodeRead 0x4C = some .rdUnmapped4C ∧ decodeRead 0xFC = some .rdUnmappedFC
      ∧ Instr.unmappedReads.length = 45 ∧ (Instr.unmappedWrites 0).length = 45 := by decide

/-- A push at EOS, at a full FIFO, and with one place left. -/
theorem witness_PushAppendsOrSetsHerr :
    ({ boot with eos := true } : State).eos = true
      ∧ ({ boot with inFifo := [1, 2, 3, 4] } : State).inFifo.length = boot.params.inDepth
      ∧ (boot.eos = false ∧ ({ boot with inFifo := [1, 2, 3] } : State).inFifo.length ≠ boot.params.inDepth) := by
  decide

theorem witness_InCtrlWriteFlushesThenSetsEos :
    (3 : Word).getLsbD 1 = true ∧ idleS.phase = .idle ∧ decS.phase ≠ .idle ∧ (1 : Word).getLsbD 1 = false := by decide

theorem witness_PopsTakeTheOldest :
    boot.outFifo = [] ∧ ({ boot with outFifo := [1, 2] } : State).outFifo = 1 :: [2]
      ∧ boot.idxFifo = [] ∧ ({ boot with idxFifo := [3] } : State).idxFifo = 3 :: [] := by decide

/-- The SLB window while busy, at the last address of the SLB, and at the first address beyond it. -/
theorem witness_SlbWindow :
    decS.phase ≠ .idle ∧ idleS.phase = .idle ∧ idleS.slbAddr.toNat < idleS.params.slbBytes
      ∧ ({ idleS with slbAddr := 16 } : State).params.slbBytes ≤ ({ idleS with slbAddr := 16 } : State).slbAddr.toNat := by
  decide

/-- Each of the five cases sets HERR, and a read of STATUS does not. -/
theorem witness_HerrOnlyByTheFiveCases :
    decS.herr = false ∧ got (exec .nop decS) (·.herr) = some true
      ∧ got (exec (.wrInData 0) { boot with eos := true }) (·.herr) = some true
      ∧ got (exec (.wrInCtrl 2) decS) (·.herr) = some true ∧ got (exec .rdSlbData decS) (·.herr) = some true
      ∧ got (exec (.wrSlbData 0) { boot with slbAddr := 16 }) (·.herr) = some true
      ∧ got (exec .rdStatus decS) (·.herr) = some false := by decide

theorem witness_CommandIssue : idleS.phase = .idle ∧ decS.phase ≠ .idle := by decide

/-- Illegal by OP, by a reserved bit, and by P outside COMP. -/
theorem witness_IllegalCommandIsReported :
    5 ≤ (0x5 : Word).toNat % 16 ∧ (0x20 : Word).toNat / 32 ≠ 0
      ∧ ((0x13 : Word).toNat / 16 % 2 = 1 ∧ (0x13 : Word).toNat % 16 ≠ 2) := by decide

theorem inv_decBytes : ({ decS with inFifo := [0xBF, 0xC0] } : State).Inv :=
  ⟨by decide, by decide, by decide, by decide, by decide, by decide, by decide, by decide, by decide⟩

/-- A literal 0xBF and a run-count byte 0xC0 at the head of the FIFO. -/
theorem witness_DecTakesUnitByte :
    ({ decS with inFifo := [0xBF, 0xC0] } : State).Inv ∧ decS.events = [] ∧ decS.phase = .dec ∧ decS.slbCount ≠ decS.lN
      ∧ decS.dWait = false ∧ ({ decS with inFifo := [0xBF, 0xC0] } : State).inFifo = 0xBF :: [0xC0]
      ∧ (0xBF : Byte).toNat < 0xC0 ∧ 0xC0 ≤ (0xC0 : Byte).toNat :=
  ⟨inv_decBytes, by decide⟩

theorem inv_decWait : ({ decS with inFifo := [9], dWait := true, dCnt := 3 } : State).Inv :=
  ⟨by decide, by decide, by decide, by decide, by decide, by decide, by decide, by decide, by decide⟩

theorem inv_decOver : ({ decS with inFifo := [9], dWait := true, dCnt := 4 } : State).Inv :=
  ⟨by decide, by decide, by decide, by decide, by decide, by decide, by decide, by decide, by decide⟩

/-- A run that just fits (count 3, room 3) and one that overruns (count 4). -/
theorem witness_DecWritesRun :
    ({ decS with inFifo := [9], dWait := true, dCnt := 3 } : State).Inv ∧ decS.events = [] ∧ decS.phase = .dec
      ∧ decS.slbCount ≠ decS.lN
      ∧ (3 : BitVec 6).toNat ≤ decS.lN.toNat - decS.slbCount.toNat
      ∧ decS.lN.toNat - decS.slbCount.toNat < (4 : BitVec 6).toNat :=
  ⟨inv_decWait, by decide⟩

theorem inv_decFull : ({ decS with slbCount := 3 } : State).Inv :=
  ⟨by decide, by decide, by decide, by decide, by decide, by decide, by decide, by decide, by decide⟩

/-- A DROW whose scanline is complete. -/
def drowS : State :=
  { boot with phase := .dec, op := .drow, lBps := 2, lPlanes := 1, lBpl := 2, lWidth := 5, lN := 2, slbCount := 2 }

theorem inv_drow : drowS.Inv :=
  ⟨by decide, by decide, by decide, by decide, by decide, by decide, by decide, by decide, by decide⟩

theorem witness_DecEndsOrHolds :
    ({ decS with slbCount := 3 } : State).Inv ∧ drowS.Inv ∧ decS.Inv
      ∧ (({ decS with slbCount := 3 } : State).slbCount = decS.lN ∧ decS.op = .decomp)
      ∧ (drowS.slbCount = drowS.lN ∧ drowS.op = .drow) ∧ (decS.slbCount ≠ decS.lN ∧ decS.inFifo = [])
      ∧ decS.eos = false ∧ ({ decS with eos := true } : State).eos = true :=
  ⟨inv_decFull, inv_drow, inv_dec, by decide⟩

theorem inv_cmpPending : ({ cmpS with inCount := 3, cHave := true, cCnt := 62, cVal := 5 } : State).Inv :=
  ⟨by decide, by decide, by decide, by decide, by decide, by decide, by decide, by decide, by decide⟩

/-- The input taken, with and without a pending run; the input missing; exactly 2 bytes of output space and 1. -/
theorem witness_CmpEndsOrHolds :
    ({ cmpS with inCount := 3, cHave := true, cCnt := 62, cVal := 5 } : State).Inv ∧ cmpS.Inv
      ∧ cmpS.needPad = false ∧ (cmpS.inCount ≠ cmpS.lLen ∧ cmpS.inFifo = [] ∧ cmpS.eos = false)
      ∧ ({ cmpS with outFifo := [0, 0, 0, 0, 0, 0] } : State).outFifo.length + 2 ≤ cmpS.params.outDepth
      ∧ cmpS.params.outDepth < ({ cmpS with outFifo := [0, 0, 0, 0, 0, 0, 0] } : State).outFifo.length + 2 :=
  ⟨inv_cmpPending, inv_cmp, by decide⟩

/-- The row's end, a full index FIFO, and one place left in it. -/
theorem witness_UnpPushesOneIndex :
    unpS.Inv ∧ unpS.events = [] ∧ unpS.phase = .unp
      ∧ ({ unpS with idxCount := 5 } : State).idxCount.toNat = unpS.lWidth.toNat
      ∧ unpS.idxCount.toNat ≠ unpS.lWidth.toNat
      ∧ ({ unpS with idxFifo := [0, 0, 0, 0, 0, 0, 0, 0] } : State).idxFifo.length = unpS.params.idxDepth
      ∧ ({ unpS with idxFifo := [0, 0, 0, 0, 0, 0, 0] } : State).idxFifo.length ≠ unpS.params.idxDepth :=
  ⟨inv_unp, by decide⟩

theorem witness_IndexModesAndBits : 7 < 8 ∧ 1 ∈ [1, 2, 4] ∧ 4 ∈ [1, 2, 4] ∧ 4 ≤ 4 := by decide

theorem witness_RowReadsStayInScanline :
    unpS.geometryError = none ∧ 4 < unpS.lWidth.toNat ∧ 1 ∈ unpS.indexReads 4 := by decide

/-- Parameters at both ends of R6's ranges. -/
theorem witness_ResetMeetsInvariant :
    Params.valid ⟨0, 1, 2, 1, 1⟩ = true ∧ Params.valid ⟨0xFFFFFF00, 65535, 65535, 65535, 262144⟩ = true := by decide

/-- Steps that leave a next state, from each phase. -/
theorem witness_StepKeepsInvariant :
    idleS.Inv ∧ got (step idleS) id = some idleS ∧ unpS.Inv ∧ got (step unpS) (·.idxCount) = some 1 :=
  ⟨inv_idle, by decide, inv_unp, by decide⟩

/-- The three ways a command ends. -/
theorem witness_ThreeWaysACommandEnds :
    ({ decS with slbCount := 3 } : State).Inv ∧ decS.phase ≠ .idle
      ∧ got (step { decS with slbCount := 3 }) (fun s => (s.phase, s.done)) = some (.idle, true)
      ∧ got (step { decS with eos := true }) (fun s => (s.phase, s.err)) = some (.idle, true)
      ∧ got (step { decS with events := [.hardReset] }) (fun s => (s.phase, s.done, s.err))
        = some (.idle, false, false) :=
  ⟨inv_decFull, by decide⟩

/-- A step that raises each kind of error: a truncation, an overrun, an illegal word, a failed check. -/
theorem witness_ErrorsRecordTheCodeAndKeepTheRest :
    decS.Inv ∧ decS.err = false
      ∧ got (step { decS with eos := true }) (fun s => (s.err, s.errcode)) = some (true, .streamTruncated)
      ∧ ({ decS with inFifo := [9], dWait := true, dCnt := 4 } : State).Inv
      ∧ got (step { decS with inFifo := [9], dWait := true, dCnt := 4 }) (fun s => (s.err, s.errcode))
        = some (true, .runOverrun)
      ∧ idleS.Inv ∧ idleS.err = false
      ∧ got (step { idleS with events := [.host (.write 0x10C [5, 0, 0, 0])] }) (fun s => (s.err, s.errcode))
        = some (true, .illegalCmd)
      ∧ got (step { idleS with bps := 0, events := [.host (.write 0x10C [3, 0, 0, 0])] })
          (fun s => (s.err, s.errcode, s.inFifo)) = some (true, .unsupportedBitDepth, idleS.inFifo) :=
  ⟨inv_dec, by decide, by decide, inv_decOver, by decide, inv_idle, by decide⟩

theorem witness_LatchedOperandsAreConstant :
    decS.phase ≠ .idle
      ∧ got (step { decS with events := [.host (.write 0x110 [9, 0, 0, 0])] }) (fun s => (s.phase, s.len))
        = some (.dec, 9) := by decide

theorem witness_EngineIgnoresFlagsAndOperandRegisters :
    unpS.events = [] ∧ got (step unpS) (·.idxFifo) = some [0] := by decide

theorem witness_HerrIsSticky :
    got (step { boot with herr := true, events := [.host (.write 0x108 [8, 0, 0, 0])] }) (·.herr) = some false
      ∧ got (step { boot with herr := true, events := [.hardReset] }) (·.herr) = some false := by decide

/-- An SLB byte already written changes by a DEC step and by a window write. -/
theorem witness_WhatWritesTheSlb :
    decS.Inv ∧ idleS.Inv
      ∧ got (step { decS with inFifo := [9], slb := [(0, 1)] }) (·.slbByte 0) = some 9
      ∧ ({ decS with inFifo := [9], slb := [(0, 1)] } : State).slbByte 0 = 1
      ∧ got (step { idleS with slbAddr := 0, events := [.host (.write 0x138 [0x5A, 0, 0, 0])] }) (·.slbByte 0)
        = some 0x5A
      ∧ idleS.slbByte 0 = 0x1B :=
  ⟨inv_dec, inv_idle, by decide⟩

/-- Each access that lifts a hold: a push, EOS_SET, a reset; a pop of OUT_DATA; a pop of IDX_DATA. -/
theorem witness_WhatLiftsAHold :
    decS.inWait = true
      ∧ got (step { decS with events := [.host (.write 0x120 [9, 0, 0, 0])] }) State.inWait = some false
      ∧ got (step { decS with events := [.host (.write 0x124 [1, 0, 0, 0])] }) State.inWait = some false
      ∧ got (step { decS with events := [.hardReset] }) State.inWait = some false
      ∧ ({ cmpS with inFifo := [1], outFifo := [0, 0, 0, 0, 0, 0, 0] } : State).outWait = true
      ∧ got (step
          { cmpS with inFifo := [1], outFifo := [0, 0, 0, 0, 0, 0, 0], events := [.host (.read 0x128 4)] })
          State.outWait = some false
      ∧ ({ unpS with idxFifo := [0, 0, 0, 0, 0, 0, 0, 0] } : State).outWait = true
      ∧ got (step { unpS with idxFifo := [0, 0, 0, 0, 0, 0, 0, 0], events := [.host (.read 0x12C 4)] })
          State.outWait = some false := by decide

/-- A run cut at 63; and R101's unit of a single byte on both sides of 0xC0 and at both ends of the lengths. -/
theorem witness_SegmentationIntoRunsAndUnits :
    runsOf (List.replicate 64 5) = [] ++ (5, 63) :: (5, 1) :: []
      ∧ unit 0xBF 1 = [0xBF] ∧ unit 0xC0 1 = [0xC1, 0xC0] ∧ unit 0xBF 2 = [0xC2, 0xBF] ∧ unit 5 63 = [0xFF, 5] := by
  decide

/-- A DECOMP fed a byte and EOS while it runs, to its end. -/
theorem witness_DecompAgreesWithReference :
    idleS.phase = .idle ∧ idleS.len.toNat ≤ idleS.params.slbBytes
      ∧ (∀ e ∈ [Event.engine, .host (.write 0x120 [7, 0, 0, 0]), .engine, .host (.write 0x124 [1, 0, 0, 0]), .engine],
          streamEvent idleS.params.baseAddr e = true)
      ∧ got (Host.Core.run Sys2Proof.core 6
          { idleS with
            events := .host (encode idleS.params.baseAddr .decomp) ::
              [.engine, .host (.write 0x120 [7, 0, 0, 0]), .engine, .host (.write 0x124 [1, 0, 0, 0]), .engine] })
          (fun t => (t.phase, t.herr, t.done)) = some (.idle, false, true) := by decide

theorem inv_cmpByte : ({ cmpS with inFifo := [6], cHave := true, cCnt := 2, cVal := 5, inCount := 2 } : State).Inv :=
  ⟨by decide, by decide, by decide, by decide, by decide, by decide, by decide, by decide, by decide⟩

theorem inv_cmpFirst : ({ cmpS with inFifo := [6] } : State).Inv :=
  ⟨by decide, by decide, by decide, by decide, by decide, by decide, by decide, by decide, by decide⟩

theorem inv_cmpGrow : ({ cmpS with inFifo := [5], cHave := true, cCnt := 61, cVal := 5 } : State).Inv :=
  ⟨by decide, by decide, by decide, by decide, by decide, by decide, by decide, by decide, by decide⟩

theorem inv_cmpFull : ({ cmpS with inFifo := [5], cHave := true, cCnt := 62, cVal := 5 } : State).Inv :=
  ⟨by decide, by decide, by decide, by decide, by decide, by decide, by decide, by decide, by decide⟩

theorem inv_cmpPad : ({ cmpS with lPad := true, inCount := 3, cHave := true, cCnt := 1, cVal := 5 } : State).Inv :=
  ⟨by decide, by decide, by decide, by decide, by decide, by decide, by decide, by decide, by decide⟩

/-- Each case of a byte taken: the first, one that grows the run to 62, one that fills it to 63, a different one; and
the pad byte. In all of them the output FIFO has room, and in the fourth a unit is emitted. -/
theorem witness_CompStepsEmitTheReference :
    ({ cmpS with inFifo := [6] } : State).Inv
      ∧ ({ cmpS with inFifo := [5], cHave := true, cCnt := 61, cVal := 5 } : State).Inv
      ∧ ({ cmpS with inFifo := [5], cHave := true, cCnt := 62, cVal := 5 } : State).Inv
      ∧ ({ cmpS with inFifo := [6], cHave := true, cCnt := 2, cVal := 5, inCount := 2 } : State).Inv
      ∧ ({ cmpS with lPad := true, inCount := 3, cHave := true, cCnt := 1, cVal := 5 } : State).Inv
      ∧ cmpS.events = [] ∧ cmpS.phase = .cmp ∧ cmpS.outFifo.length + 2 ≤ cmpS.params.outDepth
      ∧ cmpS.inCount.toNat < cmpS.lLen.toNat ∧ cmpS.cHave = false
      ∧ (61 : BitVec 6).toNat + 1 < 63 ∧ (62 : BitVec 6).toNat + 1 = 63 ∧ (6 : Byte) ≠ 5
      ∧ ({ cmpS with lPad := true, inCount := 3 } : State).needPad = true ∧ cmpS.cPadDone = false
      ∧ got (step { cmpS with inFifo := [6], cHave := true, cCnt := 2, cVal := 5, inCount := 2 })
        (fun t => (t.err, t.outFifo)) = some (false, [0xC2, 5]) :=
  ⟨inv_cmpFirst, inv_cmpGrow, inv_cmpFull, inv_cmpByte, inv_cmpPad, by decide⟩

theorem witness_CompAgreesWithReference :
    idleS.Inv ∧ idleS.phase = .idle ∧ idleS.events = [] ∧ idleS.len.toNat ≤ idleS.inFifo.length
      ∧ (rleEncode (compInput idleS.inFifo idleS.len.toNat true)).length + 1 + idleS.outFifo.length
        ≤ idleS.params.outDepth :=
  ⟨inv_idle, by decide⟩

theorem inv_short : ({ idleS with eos := true, len := 4 } : State).Inv :=
  ⟨by decide, by decide, by decide, by decide, by decide, by decide, by decide, by decide, by decide⟩

theorem witness_TruncatedCompDiscardsPendingRun :
    ({ idleS with eos := true, len := 4 } : State).Inv ∧ idleS.phase = .idle ∧ idleS.events = []
      ∧ idleS.inFifo.length < ({ idleS with eos := true, len := 4 } : State).len.toNat
      ∧ (rleEncode idleS.inFifo).length + 1 + idleS.outFifo.length ≤ idleS.params.outDepth :=
  ⟨inv_short, by decide⟩

theorem witness_UnpackAgreesWithReference :
    idleS.Inv ∧ idleS.phase = .idle ∧ idleS.events = []
      ∧ geometryCode idleS.bps.toNat idleS.planes.toNat idleS.bpl.toNat idleS.width.toNat idleS.params.slbBytes = none
      ∧ idleS.idxFifo.length + idleS.width.toNat ≤ idleS.params.idxDepth :=
  ⟨inv_idle, by decide⟩

theorem witness_DrowEqualsDecompThenUnpack :
    idleS.Inv ∧ idleS.phase = .idle ∧ idleS.events = []
      ∧ geometryCode idleS.bps.toNat idleS.planes.toNat idleS.bpl.toNat idleS.width.toNat idleS.params.slbBytes = none
      ∧ idleS.idxFifo.length + idleS.width.toNat ≤ idleS.params.idxDepth
      ∧ idleS.len.toNat = idleS.bpl.toNat * idleS.planes.toNat
      ∧ (rleDecode idleS.inFifo idleS.len.toNat).status = .none :=
  ⟨inv_idle, by decide⟩

end Sys2Proof.Tests
end

section
/-! What one step can do, said once: the effect of a host access (`HostEffect`), of an engine step
(`EngineEffect`) and of the next event (`step_effect`). The proofs about every step go through these. -/

namespace Sys2Proof.Machine

variable {s t : State}

/-! ## The effect of a host access -/

/-- What the operation `i` may leave of `s`, by the shared operation that does it. The operations whose identity later
proofs need are named; the many that only return a word, change an operand register or do nothing share a case. -/
inductive HostEffect (s : State) : Instr → State → Prop
  /-- a write against the direction or at an unmapped offset (R130, R72) -/
  | quiet (i : Instr) : HostEffect s i s
  /-- a read that only returns a word -/
  | returns (i : Instr) (w : Word) : HostEffect s i (s.ret w)
  /-- a write of LEN, GEOM, WIDTH, IRQ_EN or SLB_ADDR (R121 to R125) -/
  | operands (i : Instr) (len : BitVec 32) (bps planes : BitVec 4) (bpl : BitVec 16) (width : BitVec 17)
      (doneIe errIe herrIe : Bool) (slbAddr : BitVec 18) :
      HostEffect s i
        { s with
          len := len, bps := bps, planes := planes, bpl := bpl, width := width
          doneIe := doneIe, errIe := errIe, herrIe := herrIe, slbAddr := slbAddr }
  | ctrl (d : Word) : HostEffect s (.wrCtrl d) (s.writeCtrl d)
  | status (d : Word) : HostEffect s (.wrStatus d) (s.acknowledge d)
  /-- a command, or a write of any word to CMD -/
  | command (i : Instr) (d : Word) : HostEffect s i (s.writeCmd d)
  | push (d : Word) : HostEffect s (.wrInData d) (s.pushIn (d.extractLsb' 0 8))
  | inCtrl (d : Word) : HostEffect s (.wrInCtrl d) ((s.flushIn d).setEos d)
  | popOut : HostEffect s .rdOutData s.popOut
  | popIdx : HostEffect s .rdIdxData s.popIdx
  | windowRead : HostEffect s .rdSlbData s.slbWindowRead
  | windowWrite (d : Word) : HostEffect s (.wrSlbData d) (s.slbWindowWrite (d.extractLsb' 0 8))

/-- Every operation has one of the effects. -/
theorem exec_effect (i : Instr) (s : State) : ∃ t, exec i s = .next t ∧ HostEffect s i t := by
  cases i with
  | nop | decomp | comp | compP | unpack | drow | wrCmd _ => exact ⟨_, rfl, .command _ _⟩
  | wrCtrl d => exact ⟨_, rfl, .ctrl d⟩
  | wrStatus d => exact ⟨_, rfl, .status d⟩
  | wrLen d => exact ⟨_, rfl, .operands _ d _ _ _ _ _ _ _ _⟩
  | wrGeom d => exact ⟨_, rfl, .operands _ _ _ _ _ _ _ _ _ _⟩
  | wrWidth d => exact ⟨_, rfl, .operands _ _ _ _ _ _ _ _ _ _⟩
  | wrIrqEn d => exact ⟨_, rfl, .operands _ _ _ _ _ _ _ _ _ _⟩
  | wrSlbAddr d => exact ⟨_, rfl, .operands _ _ _ _ _ _ _ _ _ _⟩
  | wrInData d => exact ⟨_, rfl, .push d⟩
  | wrInCtrl d => exact ⟨_, rfl, .inCtrl d⟩
  | rdOutData => exact ⟨_, rfl, .popOut⟩
  | rdIdxData => exact ⟨_, rfl, .popIdx⟩
  | rdSlbData => exact ⟨_, rfl, .windowRead⟩
  | wrSlbData d => exact ⟨_, rfl, .windowWrite d⟩
  | _ => first | exact ⟨_, rfl, .quiet _⟩ | exact ⟨_, rfl, .returns _ _⟩

/-! ## The effect of an engine step -/

/-- What a DEC step leaves that takes one byte, leaving `rest`, writes `m` copies of `v` and sets d_wait to `w`
(R141, R143). -/
def State.decWrote (s : State) (rest : List Byte) (v : Byte) (m : Nat) (w : Bool) : State :=
  { s.inPopped rest with
    slb := s.slb.fill s.slbCount.toNat v m
    slbCount := s.slbCount + BitVec.ofNat 32 m
    dWait := w }

/-- What an engine step that is taken in `s` may leave, with the phase and the condition of each case (R143, R175,
R210). -/
inductive EngineEffect (s : State) : State → Prop
  | enterUnp (hp : s.phase = .dec) (hn : s.slbCount = s.lN) (ho : s.op = .drow) : EngineEffect s s.enterUnp
  | decEnd (hp : s.phase = .dec) (hn : s.slbCount = s.lN) (ho : s.op ≠ .drow) : EngineEffect s s.complete
  | truncated (hp : s.phase = .dec ∨ s.phase = .cmp) (hf : s.inFifo = []) (he : s.eos = true) :
      EngineEffect s (s.raiseError .streamTruncated)
  | runCount (b : Byte) (rest : List Byte) (hp : s.phase = .dec) (hf : s.inFifo = b :: rest) :
      EngineEffect s { s.inPopped rest with dCnt := Machine.runCount b, dWait := true }
  | literal (b : Byte) (rest : List Byte) (hp : s.phase = .dec) (hn : s.slbCount ≠ s.lN)
      (hf : s.inFifo = b :: rest) : EngineEffect s (s.decWrote rest b 1 s.dWait)
  | run (b : Byte) (rest : List Byte) (hp : s.phase = .dec) (hf : s.inFifo = b :: rest)
      (hr : s.dCnt.toNat ≤ s.room) : EngineEffect s (s.decWrote rest b s.dCnt.toNat false)
  | overrun (b : Byte) (rest : List Byte) (hp : s.phase = .dec) (hf : s.inFifo = b :: rest)
      (hr : s.room < s.dCnt.toNat) :
      EngineEffect s ((s.decWrote rest b s.room false).raiseError .runOverrun)
  | flush (hp : s.phase = .cmp) (ho : s.cHave = false ∨ 2 ≤ s.outFree) : EngineEffect s s.cmpFlush
  | input (b : Byte) (rest : List Byte) (hp : s.phase = .cmp) (hl : s.inCount < s.lLen) (hf : s.inFifo = b :: rest)
      (ho : 2 ≤ s.outFree) : EngineEffect s ((s.inPopped rest).accumulate b)
  | pad (hp : s.phase = .cmp) (hn : ¬(s.inCount = s.lLen ∧ (s.needPad = false ∨ s.cPadDone = true)))
      (hl : ¬s.inCount < s.lLen) (ho : 2 ≤ s.outFree) :
      EngineEffect s (State.accumulate { s with cPadDone := true } 0x00)
  | unpEnd (hp : s.phase = .unp) : EngineEffect s s.complete
  | index (v : Byte) (hp : s.phase = .unp) (hw : s.idxCount.toNat ≠ s.lWidth.toNat) (hi : s.idxFree ≠ 0) :
      EngineEffect s (s.idxPush v)

/-- A DEC write that is taken fits the SLB. -/
theorem State.decWrite_took {v : Byte} {m : Nat} {after : State → State} (h : s.decWrite v m after = .took t) :
    s.slbCount.toNat + m ≤ s.params.slbBytes := by
  unfold State.decWrite at h
  split at h
  · assumption
  · cases h

theorem State.decStep_effect (hp : s.phase = .dec) (h : s.decStep = .took t) : EngineEffect s t := by
  rcases s.decStep_cases with ⟨hn, ho, hs⟩ | ⟨hn, ho, hs⟩ | ⟨hn, hf, he, hs⟩ | ⟨hn, hf, he, hs⟩ | ⟨b, rest, hn, hf, hb⟩
  · cases hs.symm.trans h; exact .enterUnp hp hn ho
  · cases hs.symm.trans h; exact .decEnd hp hn ho
  · cases hs.symm.trans h; exact .truncated (.inl hp) hf he
  · cases hs.symm.trans h
  · rcases hb with ⟨-, hs⟩ | ⟨-, -, hs⟩ | ⟨-, -, hs⟩
    · have hv := hs.symm.trans h
      have hfit := State.decWrite_took (s := s.inPopped rest) hv
      rcases State.decValueByte_cases (s := s) (v := b) (rest := rest) hfit with ⟨hr, hw⟩ | ⟨hr, hw⟩
      · cases hw.symm.trans hv; exact .run b rest hp hf hr
      · cases hw.symm.trans hv; exact .overrun b rest hp hf hr
    · cases hs.symm.trans h; exact .runCount b rest hp hf
    · have hv := hs.symm.trans h
      cases (State.decWrite_fits (State.decWrite_took hv)).symm.trans hv; exact .literal b rest hp hn hf

theorem State.cmpStep_effect (hp : s.phase = .cmp) (h : s.cmpStep = .took t) : EngineEffect s t := by
  rcases s.cmpStep_cases with ⟨-, -, -, -, hs⟩ | ⟨-, -, ho, hs⟩ | ⟨-, hf, he, hs⟩ | ⟨-, -, -, hs⟩
    | ⟨b, rest, hl, hf, ⟨-, hs⟩ | ⟨ho, hs⟩⟩ | ⟨hn, hl, ⟨-, hs⟩ | ⟨ho, hs⟩⟩
  · cases hs.symm.trans h
  · cases hs.symm.trans h; exact .flush hp ho
  · cases hs.symm.trans h; exact .truncated (.inr hp) hf he
  · cases hs.symm.trans h
  · cases hs.symm.trans h
  · cases hs.symm.trans h; exact .input b rest hp hl hf ho
  · cases hs.symm.trans h
  · cases hs.symm.trans h; exact .pad hp hn hl ho

theorem State.unpStep_effect (hp : s.phase = .unp) (h : s.unpStep = .took t) : EngineEffect s t := by
  rcases s.unpStep_cases with ⟨-, hs⟩ | ⟨-, -, hs⟩ | ⟨-, -, -, hs⟩ | ⟨hw, hi, -, -, hs⟩ | ⟨-, -, -, -, hs⟩
  · cases hs.symm.trans h; exact .unpEnd hp
  · cases hs.symm.trans h
  · cases hs.symm.trans h
  · cases hs.symm.trans h; exact .index _ hp hw hi
  · cases hs.symm.trans h

/-- Every engine step that is taken has one of the effects. -/
theorem State.engineStep_effect (h : s.engineStep = .took t) : EngineEffect s t := by
  unfold State.engineStep at h
  split at h
  next => cases h
  next hp => exact State.decStep_effect hp h
  next hp => exact State.cmpStep_effect hp h
  next hp => exact State.unpStep_effect hp h

/-- The engine takes steps only while a command runs (R235). -/
theorem EngineEffect.busy (he : EngineEffect s t) : s.phase ≠ .idle := by
  cases he with
  | truncated hp => rcases hp with hp | hp <;> simp [hp]
  | _ => simp [*]

/-! ## The effect of a step -/

/-- What a step that leaves `t` has done to `s` with the event gone from its list: nothing, an engine step, a hardware
reset, or the operation that the host asked for. -/
theorem step_effect (h : step s = .next t) :
    ∃ es, t = s.withEvents es ∨ EngineEffect (s.withEvents es) t ∨ t = (s.withEvents es).resetBlock
      ∨ ∃ i, s.nextIs i ∧ HostEffect (s.withEvents es) i t := by
  have engine {es : List Event} (he : (s.withEvents es).engineTurn = .next t) :
      t = s.withEvents es ∨ EngineEffect (s.withEvents es) t := by
    rcases State.engineTurn_next he with he | ⟨rfl, -⟩
    · exact .inr (State.engineStep_effect he)
    · exact .inl rfl
  rcases step_cases h with ⟨-, he⟩ | ⟨es, -, he⟩ | ⟨es, -, rfl⟩ | ⟨a, es, i, ha, hd, hx⟩
  · exact ⟨s.events, (engine he).imp_right .inl⟩
  · exact ⟨es, (engine he).imp_right .inl⟩
  · exact ⟨es, .inr (.inr (.inl rfl))⟩
  · obtain ⟨u, hu, heff⟩ := exec_effect i (s.withEvents es)
    cases hu.symm.trans hx
    exact ⟨es, .inr (.inr (.inr ⟨i, ⟨a, es, ha, hd⟩, heff⟩))⟩

end Sys2Proof.Machine
end

section
/-! The invariant: what every update keeps of it, then every host access, every engine step and every step. The part
of it that no phase conditions, `StorageOk`, is what an ended command leaves. -/

namespace Sys2Proof.Machine

variable {s t : State}

/-! ## The parts that no phase conditions -/

/-- The parameters, the FIFOs, the SLB and the counters meet their parts of the invariant. -/
structure State.StorageOk (s : State) : Prop where
  params : s.ParamsOk
  fifos : s.FifosFit
  slb : s.SlbOk
  counters : s.CountersOk

theorem State.Inv.storage (h : s.Inv) : s.StorageOk := ⟨h.params, h.fifos, h.slb, h.counters⟩

/-- The input FIFO still fits when its oldest byte is taken. -/
theorem State.Inv.rest_fits (h : s.Inv) {b : Byte} {rest : List Byte} (hf : s.inFifo = b :: rest) :
    rest.length ≤ s.params.inDepth := by
  obtain ⟨hin, -⟩ := h.fifos
  rw [hf] at hin
  exact Nat.le_of_succ_le hin

/-- A running command has left both flags at 0. -/
theorem State.Inv.flags_busy (h : s.Inv) (hp : s.phase ≠ .idle) :
    s.done = false ∧ s.err = false ∧ s.errcode = .none := by
  obtain ⟨hcode, -, hbusy⟩ := h.flags
  obtain ⟨hdone, herr⟩ := hbusy hp
  exact ⟨hdone, herr, hcode.1 herr⟩

/-- The run state is clear (R48, R49). -/
abbrev State.RunClear (s : State) : Prop :=
  s.dWait = false ∧ s.dCnt = 0 ∧ s.cHave = false ∧ s.cVal = 0 ∧ s.cCnt = 0 ∧ s.cPadDone = false

theorem State.clearRun_runClear (s : State) : s.clearRun.RunClear := ⟨rfl, rfl, rfl, rfl, rfl, rfl⟩

/-- Between commands the run state is clear. -/
theorem State.Inv.runClear (h : s.Inv) (hp : s.phase = .idle) : s.RunClear := by
  obtain ⟨hdec, hcmp⟩ := h.runState
  obtain ⟨hw, hc⟩ := hdec (by simp [hp])
  exact ⟨hw, hc, hcmp (by simp [hp])⟩

/-- A state whose run state is clear has only its flags and its own command's conditions to meet. -/
theorem State.StorageOk.inv (hs : s.StorageOk) (hrun : s.RunClear) (hflags : s.FlagsOk) (hdec : s.DecOk)
    (hcmp : s.CmpOk) (hunp : s.UnpOk) : s.Inv where
  params := hs.params
  fifos := hs.fifos
  slb := hs.slb
  flags := hflags
  counters := hs.counters
  runState := by
    obtain ⟨hw, hc, hcmp⟩ := hrun
    exact ⟨fun _ => ⟨hw, hc⟩, fun _ => hcmp⟩
  dec := hdec
  cmp := hcmp
  unp := hunp

/-- An idle state has no command's conditions to meet. -/
theorem State.StorageOk.inv_idle (hs : s.StorageOk) (hp : s.phase = .idle) (hrun : s.RunClear)
    (hcode : s.err = false ↔ s.errcode = .none) (hdone : s.done = true → s.err = false) : s.Inv :=
  hs.inv hrun ⟨hcode, hdone, fun h => absurd hp h⟩ (fun h => by simp [hp] at h) (fun h => by simp [hp] at h)
    (fun h => by simp [hp] at h)

/-- A command that ends without error leaves the invariant (R236). -/
theorem State.StorageOk.complete (hs : s.StorageOk) (he : s.err = false) (hcode : s.errcode = .none) :
    s.complete.Inv :=
  State.StorageOk.inv_idle ⟨hs.params, hs.fifos, hs.slb, hs.counters⟩ rfl (State.clearRun_runClear _)
    (by simp [he, hcode]) (fun _ => he)

/-- A command that ends with an error leaves the invariant (R255). -/
theorem State.StorageOk.raiseError {code : ErrorCode} (hs : s.StorageOk) (hd : s.done = false)
    (hcode : code ≠ .none) : (s.raiseError code).Inv :=
  State.StorageOk.inv_idle ⟨hs.params, hs.fifos, hs.slb, hs.counters⟩ rfl (State.clearRun_runClear _)
    (by simp [hcode]) (by simp [hd])

/-- A reset leaves the invariant, whatever ran (R52, R281). -/
theorem State.StorageOk.resetBlock (hs : s.StorageOk) : s.resetBlock.Inv :=
  State.StorageOk.inv_idle
    ⟨hs.params, ⟨Nat.zero_le _, Nat.zero_le _, Nat.zero_le _⟩, hs.slb, ⟨Nat.zero_le _, Nat.two_pow_pos 17⟩⟩ rfl
    (State.clearRun_runClear _) (by simp) (by simp)

/-! ## Updates that no part of the invariant sees -/

theorem State.Inv.withEvents (h : s.Inv) (es : List Event) : (s.withEvents es).Inv :=
  ⟨h.params, h.fifos, h.slb, h.flags, h.counters, h.runState, h.dec, h.cmp, h.unp⟩

theorem State.Inv.ret (h : s.Inv) (w : Word) : (s.ret w).Inv :=
  ⟨h.params, h.fifos, h.slb, h.flags, h.counters, h.runState, h.dec, h.cmp, h.unp⟩

theorem State.Inv.setHerr (h : s.Inv) : s.setHerr.Inv :=
  ⟨h.params, h.fifos, h.slb, h.flags, h.counters, h.runState, h.dec, h.cmp, h.unp⟩

theorem State.Inv.slbAdvance (h : s.Inv) : s.slbAdvance.Inv :=
  ⟨h.params, h.fifos, h.slb, h.flags, h.counters, h.runState, h.dec, h.cmp, h.unp⟩

theorem State.Inv.setEos (h : s.Inv) (d : Word) : (s.setEos d).Inv := by
  rw [State.setEos_eq]
  exact ⟨h.params, h.fifos, h.slb, h.flags, h.counters, h.runState, h.dec, h.cmp, h.unp⟩

/-- The invariant asks of the FIFOs only that they fit. -/
theorem State.Inv.withFifos (h : s.Inv) {inFifo outFifo idxFifo : List Byte} (eos : Bool)
    (hin : inFifo.length ≤ s.params.inDepth) (hout : outFifo.length ≤ s.params.outDepth)
    (hidx : idxFifo.length ≤ s.params.idxDepth) :
    State.Inv { s with inFifo := inFifo, outFifo := outFifo, idxFifo := idxFifo, eos := eos } :=
  ⟨h.params, ⟨hin, hout, hidx⟩, h.slb, h.flags, h.counters, h.runState, h.dec, h.cmp, h.unp⟩

/-! ## Host accesses -/

theorem State.Inv.pushIn (h : s.Inv) (b : Byte) : (s.pushIn b).Inv := by
  obtain ⟨hin, hout, hidx⟩ := h.fifos
  rcases s.pushIn_cases b with ⟨-, hs⟩ | ⟨-, hlen, hs⟩
  · rw [hs]; exact h.setHerr
  · rw [hs]; exact h.withFifos s.eos (by simp; omega) hout hidx

theorem State.Inv.flushIn (h : s.Inv) (d : Word) : (s.flushIn d).Inv := by
  obtain ⟨-, hout, hidx⟩ := h.fifos
  rcases s.flushIn_cases d with ⟨-, hs⟩ | ⟨-, -, hs⟩ | ⟨-, -, hs⟩
  · rw [hs]; exact h
  · rw [hs]; exact h.setHerr
  · rw [hs]; exact h.withFifos false (by simp) hout hidx

theorem State.Inv.popOut (h : s.Inv) : s.popOut.Inv := by
  obtain ⟨hin, hout, hidx⟩ := h.fifos
  cases hf : s.outFifo with
  | nil => rw [State.popOut_nil hf]; exact h.ret 0
  | cons b rest =>
    rw [State.popOut_cons hf]
    exact (h.withFifos s.eos hin (outFifo := rest) (Nat.le_of_succ_le (by simpa [hf] using hout)) hidx).ret (popWord b)

theorem State.Inv.popIdx (h : s.Inv) : s.popIdx.Inv := by
  obtain ⟨hin, hout, hidx⟩ := h.fifos
  cases hf : s.idxFifo with
  | nil => rw [State.popIdx_nil hf]; exact h.ret 0
  | cons b rest =>
    rw [State.popIdx_cons hf]
    exact (h.withFifos s.eos hin hout (idxFifo := rest) (Nat.le_of_succ_le (by simpa [hf] using hidx))).ret (popWord b)

theorem State.Inv.slbWindowRead (h : s.Inv) : s.slbWindowRead.Inv := by
  rcases s.slbWindowRead_cases with ⟨-, hs⟩ | ⟨-, -, hs⟩ | ⟨-, -, hs⟩
  · rw [hs]; exact h.setHerr.ret 0
  · rw [hs]; exact h.slbAdvance.ret _
  · rw [hs]; exact h.setHerr.slbAdvance.ret 0

/-- A window write stores its byte below SLB_BYTES only, so the SLB stays in its range (R127). -/
theorem State.Inv.slbWindowWrite (h : s.Inv) (b : Byte) : (s.slbWindowWrite b).Inv := by
  rcases s.slbWindowWrite_cases b with ⟨-, hs⟩ | ⟨-, hlt, hs⟩ | ⟨-, -, hs⟩
  · rw [hs]; exact h.setHerr
  · obtain ⟨hwf, hbound⟩ := h.slb
    rw [hs]
    exact ⟨h.params, h.fifos, ⟨Memory.wf_write _ b hwf, Memory.bound_write b hbound hlt⟩, h.flags, h.counters,
      h.runState, h.dec, h.cmp, h.unp⟩
  · rw [hs]; exact h.setHerr.slbAdvance

/-- An acknowledgement clears ERR and ERRCODE together and sets no flag (R114). -/
theorem State.Inv.acknowledge (h : s.Inv) (d : Word) : (s.acknowledge d).Inv := by
  obtain ⟨hcode, hdone, hbusy⟩ := h.flags
  refine ⟨h.params, h.fifos, h.slb, ⟨?_, ?_, ?_⟩, h.counters, h.runState, h.dec, h.cmp, h.unp⟩
  · rw [State.acknowledge_err, State.acknowledge_errcode]
    cases d.getLsbD 2 <;> simp [hcode]
  · rw [State.acknowledge_done, State.acknowledge_err]
    cases hd : s.done <;> simp_all
  · intro hp
    obtain ⟨hd, he⟩ := hbusy hp
    simp [hd, he]

theorem State.Inv.writeCtrl (h : s.Inv) (d : Word) : (s.writeCtrl d).Inv := by
  rcases s.writeCtrl_cases d with ⟨-, hs⟩ | ⟨-, hs⟩
  · rw [hs]; exact h.storage.resetBlock
  · rw [hs]; exact h

/-! ## Command issue -/

theorem State.Inv.raiseIllegal (h : s.Inv) (hp : s.phase = .idle) : s.raiseIllegal.Inv :=
  State.StorageOk.inv_idle ⟨h.params, h.fifos, h.slb, h.counters⟩ hp (h.runClear hp) (by simp) (by simp)

/-- The checks of UNPACK and DROW report an error, never the code of no error. -/
theorem State.geometryError_ne_none (s : State) : s.geometryError ≠ some .none := by
  unfold State.geometryError
  split_ifs <;> simp

/-- So does the check of every command. -/
theorem State.issueError_ne_none (s : State) (op : Op) : s.issueError op ≠ some .none := by
  cases op with
  | decomp => unfold State.issueError; dsimp only; split_ifs <;> simp
  | comp => simp [State.issueError]
  | unpack | drow => exact s.geometryError_ne_none

/-- A DECOMP that passes its check has its target length in the SLB (R141). -/
theorem State.lN_le_of_issueError (h : s.issueError .decomp = none) : s.lN.toNat ≤ s.params.slbBytes := by
  unfold State.issueError at h
  dsimp only at h
  split_ifs at h
  assumption

/-- A command that passes the four checks has its scanline in the SLB (R202). -/
theorem State.scanline_le_of_geometryError (h : s.geometryError = none) :
    s.lBpl.toNat * s.lPlanes.toNat ≤ s.params.slbBytes := by
  unfold State.geometryError at h
  split_ifs at h
  omega

/-- The product that DROW latches as L_N does not wrap (R95). -/
theorem toNat_scanline (bpl : BitVec 16) (planes : BitVec 4) :
    (bpl.setWidth 32 * planes.setWidth 32).toNat = bpl.toNat * planes.toNat := by
  have hlt : bpl.toNat * planes.toNat < 2 ^ 16 * 2 ^ 4 := Nat.mul_lt_mul'' bpl.isLt planes.isLt
  rw [BitVec.toNat_mul, BitVec.toNat_setWidth_of_le (by decide), BitVec.toNat_setWidth_of_le (by decide)]
  exact Nat.mod_eq_of_lt (hlt.trans (by decide))

/-- The state a start of `op` checks: cleared, with the operands of `op` latched (R231 to R233). -/
abbrev State.latched (s : State) (op : Op) (d : Word) : State :=
  (State.clearAtStart { s with op := op }).latch op d

/-- A start has cleared the flags, the counters and the run state, whatever it latches (R232). -/
theorem State.latched_clear (s : State) (op : Op) (d : Word) :
    (s.latched op d).done = false ∧ (s.latched op d).err = false ∧ (s.latched op d).errcode = .none
      ∧ (s.latched op d).RunClear := by
  cases op <;> exact ⟨rfl, rfl, rfl, rfl, rfl, rfl, rfl, rfl, rfl⟩

theorem State.StorageOk.latched (hs : s.StorageOk) (op : Op) (d : Word) : (s.latched op d).StorageOk := by
  cases op <;> exact ⟨hs.params, hs.fifos, hs.slb, Nat.zero_le _, Nat.two_pow_pos 17⟩

/-- A start whose check fails leaves the invariant. -/
theorem State.StorageOk.raiseError_latched {op : Op} {d : Word} {code : ErrorCode} (hs : s.StorageOk)
    (hc : (s.latched op d).issueError op = some code) : ((s.latched op d).raiseError code).Inv := by
  obtain ⟨hdone, -⟩ := s.latched_clear op d
  exact (hs.latched op d).raiseError hdone fun hnone => State.issueError_ne_none _ op (hnone ▸ hc)

/-- A start that enters a phase has only its own command's conditions to meet. -/
theorem State.StorageOk.inv_entered {op : Op} {d : Word} (hs : s.StorageOk)
    (hdec : State.DecOk { s.latched op d with phase := op.firstPhase })
    (hcmp : State.CmpOk { s.latched op d with phase := op.firstPhase })
    (hunp : State.UnpOk { s.latched op d with phase := op.firstPhase }) :
    State.Inv { s.latched op d with phase := op.firstPhase } := by
  have hl := hs.latched op d
  obtain ⟨hdone, herr, hcode, hrun⟩ := s.latched_clear op d
  exact State.StorageOk.inv ⟨hl.params, hl.fifos, hl.slb, hl.counters⟩ hrun
    ⟨iff_of_true herr hcode, fun _ => herr, fun _ => ⟨hdone, herr⟩⟩ hdec hcmp hunp

/-- A start whose check passes leaves the invariant: its own command's conditions are what the check has found. -/
theorem State.StorageOk.enter {op : Op} {d : Word} (hs : s.StorageOk)
    (hc : (s.latched op d).issueError op = none) :
    State.Inv { s.latched op d with phase := op.firstPhase } := by
  cases op with
  | decomp =>
    exact hs.inv_entered
      (fun _ => ⟨.inl rfl, Nat.zero_le _, State.lN_le_of_issueError hc, rfl, nofun⟩) nofun nofun
  | comp => exact hs.inv_entered nofun (fun _ => ⟨rfl, Nat.zero_le _, nofun, nofun⟩) nofun
  | unpack => exact hs.inv_entered nofun nofun (fun _ => ⟨.inl rfl, hc, Nat.zero_le _⟩)
  | drow =>
    have hN := toNat_scanline s.bpl s.planes
    exact hs.inv_entered
      (fun _ => ⟨.inr rfl, Nat.zero_le _, hN.trans_le (State.scanline_le_of_geometryError hc), rfl,
        fun _ => ⟨hc, hN⟩⟩) nofun nofun

theorem State.Inv.start (h : s.Inv) (op : Op) (d : Word) : (s.start op d).Inv := by
  rcases s.start_cases op d with ⟨code, hc, hs⟩ | ⟨hc, hs⟩
  · rw [hs]; exact h.storage.raiseError_latched hc
  · rw [hs]; exact h.storage.enter hc

theorem State.Inv.writeCmd (h : s.Inv) (d : Word) : (s.writeCmd d).Inv := by
  rcases s.writeCmd_cases d with ⟨-, hs⟩ | ⟨hp, -, hs⟩ | ⟨-, -, -, hs⟩ | ⟨op, -, -, -, hs⟩
  · rw [hs]; exact h.setHerr
  · rw [hs]; exact h.raiseIllegal hp
  · rw [hs]; exact h
  · rw [hs]; exact h.start op d

/-- Every host access keeps the invariant. -/
theorem HostEffect.inv {i : Instr} (he : HostEffect s i t) (h : s.Inv) : t.Inv := by
  cases he with
  | quiet => exact h
  | returns _ w => exact h.ret w
  | operands => exact ⟨h.params, h.fifos, h.slb, h.flags, h.counters, h.runState, h.dec, h.cmp, h.unp⟩
  | ctrl d => exact h.writeCtrl d
  | status d => exact h.acknowledge d
  | command _ d => exact h.writeCmd d
  | push d => exact h.pushIn _
  | inCtrl d => exact (h.flushIn d).setEos d
  | popOut => exact h.popOut
  | popIdx => exact h.popIdx
  | windowRead => exact h.slbWindowRead
  | windowWrite d => exact h.slbWindowWrite _

end Sys2Proof.Machine
end

section
/-! The invariant over the engine: each phase's steps, then every engine step, then every step. -/

namespace Sys2Proof.Machine

variable {s t : State}

/-! ## Decompression -/

/-- Copies that fit the room of the scanline do not wrap SLB_COUNT (R141). -/
theorem State.decWrote_slbCount {rest : List Byte} {v : Byte} {m : Nat} {w : Bool}
    (hle : s.slbCount.toNat ≤ s.lN.toNat) (hm : m ≤ s.room) :
    (s.decWrote rest v m w).slbCount.toNat = s.slbCount.toNat + m := by
  have hN := s.lN.isLt
  have hsum : s.slbCount.toNat + m ≤ s.lN.toNat := by unfold State.room at hm; omega
  simp only [State.decWrote, BitVec.toNat_add, BitVec.toNat_ofNat]
  omega

/-- Below L_N there is room for a literal. -/
theorem State.one_le_room (hle : s.slbCount.toNat ≤ s.lN.toNat) (hn : s.slbCount ≠ s.lN) : 1 ≤ s.room := by
  have hne : s.slbCount.toNat ≠ s.lN.toNat := fun h => hn (BitVec.eq_of_toNat_eq h)
  unfold State.room
  omega

/-- A DEC step that takes a byte and writes copies that fit the room keeps the invariant (R141, R143). -/
theorem State.Inv.decWrote (h : s.Inv) (hp : s.phase = .dec) {b : Byte} {rest : List Byte}
    (hf : s.inFifo = b :: rest) {m : Nat} (hm : m ≤ s.room) (v : Byte) (w : Bool) : (s.decWrote rest v m w).Inv := by
  obtain ⟨hop, hle, hN, hidx, hdrow⟩ := h.dec hp
  obtain ⟨-, hout, hix⟩ := h.fifos
  obtain ⟨hwf, hbound⟩ := h.slb
  obtain ⟨-, hwidth⟩ := h.counters
  obtain ⟨-, hcmp⟩ := h.runState
  have hcount := State.decWrote_slbCount (rest := rest) (v := v) (w := w) hle hm
  have hsum : s.slbCount.toNat + m ≤ s.lN.toNat := by unfold State.room at hm; omega
  exact {
    params := h.params
    fifos := ⟨h.rest_fits hf, hout, hix⟩
    slb := ⟨Memory.wf_fill m _ v hwf, Memory.bound_fill m v hbound (hsum.trans hN)⟩
    flags := h.flags
    counters := ⟨by rw [hcount]; exact hsum.trans hN, hwidth⟩
    runState := ⟨fun hn => absurd hp hn, hcmp⟩
    dec := fun _ => ⟨hop, by rw [hcount]; exact hsum, hN, hidx, hdrow⟩
    cmp := fun hc => nomatch hp.symm.trans hc
    unp := fun hu => nomatch hp.symm.trans hu }

/-- A run-count byte taken keeps the invariant: in DEC the run state is free. -/
theorem State.Inv.takeRunCount (h : s.Inv) (hp : s.phase = .dec) {b : Byte} {rest : List Byte}
    (hf : s.inFifo = b :: rest) (n : BitVec 6) : State.Inv { s.inPopped rest with dCnt := n, dWait := true } := by
  obtain ⟨-, hout, hix⟩ := h.fifos
  obtain ⟨-, hcmp⟩ := h.runState
  exact {
    params := h.params
    fifos := ⟨h.rest_fits hf, hout, hix⟩
    slb := h.slb
    flags := h.flags
    counters := h.counters
    runState := ⟨fun hn => absurd hp hn, hcmp⟩
    dec := h.dec
    cmp := fun hc => nomatch hp.symm.trans hc
    unp := fun hu => nomatch hp.symm.trans hu }

/-- A DROW that goes on to its UNP phase has passed the checks already (R242). -/
theorem State.Inv.enterUnp (h : s.Inv) (hp : s.phase = .dec) (ho : s.op = .drow) : s.enterUnp.Inv := by
  obtain ⟨-, -, -, hidx, hdrow⟩ := h.dec hp
  obtain ⟨hgeo, -⟩ := hdrow ho
  obtain ⟨-, hcmp⟩ := h.runState
  obtain ⟨hdone, herr, hcode⟩ := h.flags_busy (by simp [hp])
  refine State.StorageOk.inv ⟨h.params, h.fifos, h.slb, h.counters⟩ ⟨rfl, rfl, hcmp (by simp [hp])⟩
    ⟨iff_of_true herr hcode, fun _ => herr, fun _ => ⟨hdone, herr⟩⟩ nofun nofun (fun _ => ⟨.inr ho, hgeo, ?_⟩)
  rw [State.enterUnp_idxCount, hidx]
  exact Nat.zero_le _

/-! ## Compression -/

theorem unit_length_le (v : Byte) (n : Nat) : (unit v n).length ≤ 2 := by
  unfold unit
  split <;> simp

/-- A unit fits the output FIFO where two bytes do. -/
theorem State.Inv.outPush_unit (h : s.Inv) (ho : 2 ≤ s.outFree) (v : Byte) (n : Nat) :
    (s.outPush (unit v n)).Inv := by
  obtain ⟨hin, hout, hix⟩ := h.fifos
  have hlen := unit_length_le v n
  have hfit : (s.outFifo ++ unit v n).length ≤ s.params.outDepth := by
    unfold State.outFree at ho
    rw [List.length_append]
    omega
  exact ⟨h.params, ⟨hin, hfit, hix⟩, h.slb, h.flags, h.counters, h.runState, h.dec, h.cmp, h.unp⟩

/-- In CMP the pending run is free, as long as it has length 1 to 62 (R175). -/
theorem State.Inv.withPending (h : s.Inv) (hp : s.phase = .cmp) {pending : Bool} {n : BitVec 6} (v : Byte)
    (hn : pending = true → 1 ≤ n.toNat ∧ n.toNat ≤ 62) :
    State.Inv { s with cHave := pending, cVal := v, cCnt := n } := by
  obtain ⟨hop, hle, -, hpad⟩ := h.cmp hp
  obtain ⟨hdec, -⟩ := h.runState
  exact {
    params := h.params
    fifos := h.fifos
    slb := h.slb
    flags := h.flags
    counters := h.counters
    runState := ⟨hdec, fun hn => absurd hp hn⟩
    dec := h.dec
    cmp := fun _ => ⟨hop, hle, hn, hpad⟩
    unp := h.unp }

/-- A byte accumulated keeps the invariant: a run that reaches 63 is emitted at once (R175). -/
theorem State.Inv.accumulate (h : s.Inv) (hp : s.phase = .cmp) (ho : 2 ≤ s.outFree) (b : Byte) :
    (s.accumulate b).Inv := by
  obtain ⟨-, -, hrun, -⟩ := h.cmp hp
  rcases s.accumulate_cases b with ⟨hc, -, h63, hs⟩ | ⟨-, -, -, hs⟩ | ⟨-, -, hs⟩ | ⟨-, hs⟩
  · obtain ⟨h1, h62⟩ := hrun hc
    have hlt : (s.cCnt + 1).toNat = s.cCnt.toNat + 1 := by simp; omega
    have hne : s.cCnt.toNat + 1 ≠ 63 := fun he => h63 (BitVec.eq_of_toNat_eq (hlt.trans he))
    rw [hs]
    exact h.withPending hp s.cVal (fun _ => by omega)
  · rw [hs]
    exact (h.outPush_unit ho s.cVal 63).withPending hp s.cVal nofun
  · rw [hs]
    exact (h.outPush_unit ho s.cVal s.cCnt.toNat).withPending hp b (fun _ => by decide)
  · rw [hs]
    exact h.withPending hp b (fun _ => by decide)

/-- A byte of input taken keeps the invariant: the pad byte is not taken before the input has ended. -/
theorem State.Inv.takeInput (h : s.Inv) (hp : s.phase = .cmp) (hl : s.inCount < s.lLen) {b : Byte}
    {rest : List Byte} (hf : s.inFifo = b :: rest) : (s.inPopped rest).Inv := by
  obtain ⟨-, hout, hix⟩ := h.fifos
  obtain ⟨hop, -, hrun, hpad⟩ := h.cmp hp
  have hlt : s.inCount.toNat < s.lLen.toNat := hl
  have hnext : (s.inCount + 1).toNat ≤ s.lLen.toNat := by simp; omega
  exact {
    params := h.params
    fifos := ⟨h.rest_fits hf, hout, hix⟩
    slb := h.slb
    flags := h.flags
    counters := h.counters
    runState := h.runState
    dec := h.dec
    cmp := fun _ => ⟨hop, hnext, hrun, fun hd => absurd (hpad hd).2 (BitVec.ne_of_lt hl)⟩
    unp := h.unp }

/-- A compression that has neither to flush nor to take a byte has the pad byte to take (R174, R175). -/
theorem State.pad_due (hle : s.inCount.toNat ≤ s.lLen.toNat)
    (hn : ¬(s.inCount = s.lLen ∧ (s.needPad = false ∨ s.cPadDone = true))) (hl : ¬s.inCount < s.lLen) :
    s.inCount = s.lLen ∧ s.needPad = true ∧ s.cPadDone = false := by
  have heq : s.inCount = s.lLen := BitVec.eq_of_toNat_eq (le_antisymm hle (not_lt.1 hl))
  simpa [heq] using hn

/-- The pad byte is taken where it is due: the input has ended, and it has not been taken. -/
theorem State.Inv.takePad (h : s.Inv) (hp : s.phase = .cmp)
    (hn : ¬(s.inCount = s.lLen ∧ (s.needPad = false ∨ s.cPadDone = true))) (hl : ¬s.inCount < s.lLen) :
    State.Inv { s with cPadDone := true } := by
  obtain ⟨hop, hle, hrun, -⟩ := h.cmp hp
  obtain ⟨hdec, -⟩ := h.runState
  obtain ⟨heq, hpad, -⟩ := State.pad_due hle hn hl
  exact {
    params := h.params
    fifos := h.fifos
    slb := h.slb
    flags := h.flags
    counters := h.counters
    runState := ⟨hdec, fun hc => absurd hp hc⟩
    dec := h.dec
    cmp := fun _ => ⟨hop, hle, hrun, fun _ => ⟨hpad, heq⟩⟩
    unp := h.unp }

/-- The flush emits the pending run, which fits, and ends the command. -/
theorem State.Inv.cmpFlush (h : s.Inv) (hp : s.phase = .cmp) (ho : s.cHave = false ∨ 2 ≤ s.outFree) :
    s.cmpFlush.Inv := by
  obtain ⟨-, herr, hcode⟩ := h.flags_busy (by simp [hp])
  rcases s.cmpFlush_cases with ⟨hc, hs⟩ | ⟨-, hs⟩
  · have hroom : 2 ≤ s.outFree := ho.resolve_left (by simp [hc])
    rw [hs]
    exact (h.outPush_unit hroom _ _).storage.complete herr hcode
  · rw [hs]
    exact h.storage.complete herr hcode

/-! ## Index extraction -/

/-- An index pushed keeps the invariant: the FIFO has room, and the row has a column left (R209, R210). -/
theorem State.Inv.idxPush (h : s.Inv) (hp : s.phase = .unp) (hw : s.idxCount.toNat ≠ s.lWidth.toNat)
    (hi : s.idxFree ≠ 0) (v : Byte) : (s.idxPush v).Inv := by
  obtain ⟨hin, hout, hix⟩ := h.fifos
  obtain ⟨hop, hgeo, hle⟩ := h.unp hp
  obtain ⟨hslb, -⟩ := h.counters
  have hwidth := s.lWidth.isLt
  have hnext : (s.idxCount + 1).toNat ≤ s.lWidth.toNat := by simp; omega
  have hfit : (s.idxFifo ++ [v]).length ≤ s.params.idxDepth := by
    unfold State.idxFree at hi
    simp
    omega
  exact {
    params := h.params
    fifos := ⟨hin, hout, hfit⟩
    slb := h.slb
    flags := h.flags
    counters := ⟨hslb, hnext.trans_lt hwidth⟩
    runState := h.runState
    dec := fun hd => nomatch hp.symm.trans hd
    cmp := h.cmp
    unp := fun _ => ⟨hop, hgeo, hnext⟩ }

/-! ## The engine and the step -/

/-- Every engine step keeps the invariant. -/
theorem EngineEffect.inv (he : EngineEffect s t) (h : s.Inv) : t.Inv := by
  obtain ⟨hdone, herr, hcode⟩ := h.flags_busy he.busy
  cases he with
  | enterUnp hp _ ho => exact h.enterUnp hp ho
  | decEnd => exact h.storage.complete herr hcode
  | truncated => exact h.storage.raiseError hdone (by decide)
  | runCount b rest hp hf => exact h.takeRunCount hp hf _
  | literal b rest hp hn hf =>
    obtain ⟨-, hle, -⟩ := h.dec hp
    exact h.decWrote hp hf (State.one_le_room hle hn) b _
  | run b rest hp hf hr => exact h.decWrote hp hf hr b _
  | overrun b rest hp hf => exact (h.decWrote hp hf le_rfl b false).storage.raiseError hdone (by decide)
  | flush hp ho => exact h.cmpFlush hp ho
  | input b rest hp hl hf ho => exact (h.takeInput hp hl hf).accumulate hp ho b
  | pad hp hn hl ho => exact (h.takePad hp hn hl).accumulate hp ho 0x00
  | unpEnd => exact h.storage.complete herr hcode
  | index v hp hw hi => exact h.idxPush hp hw hi v

/-- Settles O43: each effect a step can have keeps the invariant. -/
theorem stepKeepsInvariant : Obligations.StepKeepsInvariant := by
  intro s t h hstep
  obtain ⟨es, rfl | he | rfl | ⟨i, -, he⟩⟩ := step_effect hstep
  · exact h.withEvents es
  · exact he.inv (h.withEvents es)
  · exact (h.withEvents es).storage.resetBlock
  · exact he.inv (h.withEvents es)

/-- Power-up is idle, with every flag, counter and FIFO and the run state clear (R52). -/
theorem State.powerUp_inv {p : Params} (hp : p.valid = true) : (State.powerUp p).Inv :=
  State.StorageOk.inv_idle
    ⟨hp, ⟨Nat.zero_le _, Nat.zero_le _, Nat.zero_le _⟩, ⟨.nil, nofun⟩, ⟨Nat.zero_le _, Nat.two_pow_pos 17⟩⟩ rfl
    ⟨rfl, rfl, rfl, rfl, rfl, rfl⟩ (iff_of_true rfl rfl) (fun _ => rfl)

/-- Settles O42: the default parameters are among those R6 allows. -/
theorem resetMeetsInvariant : Obligations.ResetMeetsInvariant :=
  ⟨State.powerUp_inv rfl, fun _ hp => State.powerUp_inv hp⟩

end Sys2Proof.Machine
end

section
/-! What steps leave unchanged: the latched operands of a running command, and the SLB outside DEC and the idle
window. -/

namespace Sys2Proof.Machine

variable {s t : State}

/-- `op` and the latched operands (R46, R47). -/
def State.latchedOperands (s : State) :
    Op × BitVec 32 × BitVec 32 × Bool × BitVec 4 × BitVec 4 × BitVec 16 × BitVec 17 :=
  (s.op, s.lN, s.lLen, s.lPad, s.lBps, s.lPlanes, s.lBpl, s.lWidth)

/-! ## What each operation leaves of the latched operands and of the SLB -/

theorem State.accumulate_frame (s : State) (b : Byte) :
    (s.accumulate b).latchedOperands = s.latchedOperands ∧ (s.accumulate b).slb = s.slb := by
  rcases s.accumulate_cases b with ⟨-, -, -, hs⟩ | ⟨-, -, -, hs⟩ | ⟨-, -, hs⟩ | ⟨-, hs⟩
  all_goals rw [hs]; exact ⟨rfl, rfl⟩

theorem State.cmpFlush_frame (s : State) :
    s.cmpFlush.latchedOperands = s.latchedOperands ∧ s.cmpFlush.slb = s.slb := by
  rcases s.cmpFlush_cases with ⟨-, hs⟩ | ⟨-, hs⟩
  all_goals rw [hs]; exact ⟨rfl, rfl⟩

theorem State.writeCtrl_frame (s : State) (d : Word) :
    (s.writeCtrl d).latchedOperands = s.latchedOperands ∧ (s.writeCtrl d).slb = s.slb := by
  rcases s.writeCtrl_cases d with ⟨-, hs⟩ | ⟨-, hs⟩
  all_goals rw [hs]; exact ⟨rfl, rfl⟩

theorem State.pushIn_frame (s : State) (b : Byte) :
    (s.pushIn b).latchedOperands = s.latchedOperands ∧ (s.pushIn b).slb = s.slb := by
  rcases s.pushIn_cases b with ⟨-, hs⟩ | ⟨-, -, hs⟩
  all_goals rw [hs]; exact ⟨rfl, rfl⟩

theorem State.writeInCtrl_frame (s : State) (d : Word) :
    ((s.flushIn d).setEos d).latchedOperands = s.latchedOperands ∧ ((s.flushIn d).setEos d).slb = s.slb := by
  rw [State.setEos_eq]
  rcases s.flushIn_cases d with ⟨-, hs⟩ | ⟨-, -, hs⟩ | ⟨-, -, hs⟩
  all_goals rw [hs]; exact ⟨rfl, rfl⟩

theorem State.popOut_frame (s : State) :
    s.popOut.latchedOperands = s.latchedOperands ∧ s.popOut.slb = s.slb := by
  cases hf : s.outFifo with
  | nil => rw [State.popOut_nil hf]; exact ⟨rfl, rfl⟩
  | cons b rest => rw [State.popOut_cons hf]; exact ⟨rfl, rfl⟩

theorem State.popIdx_frame (s : State) :
    s.popIdx.latchedOperands = s.latchedOperands ∧ s.popIdx.slb = s.slb := by
  cases hf : s.idxFifo with
  | nil => rw [State.popIdx_nil hf]; exact ⟨rfl, rfl⟩
  | cons b rest => rw [State.popIdx_cons hf]; exact ⟨rfl, rfl⟩

theorem State.slbWindowRead_frame (s : State) :
    s.slbWindowRead.latchedOperands = s.latchedOperands ∧ s.slbWindowRead.slb = s.slb := by
  rcases s.slbWindowRead_cases with ⟨-, hs⟩ | ⟨-, -, hs⟩ | ⟨-, -, hs⟩
  all_goals rw [hs]; exact ⟨rfl, rfl⟩

theorem State.slbWindowWrite_latchedOperands (s : State) (b : Byte) :
    (s.slbWindowWrite b).latchedOperands = s.latchedOperands := by
  rcases s.slbWindowWrite_cases b with ⟨-, hs⟩ | ⟨-, -, hs⟩ | ⟨-, -, hs⟩
  all_goals rw [hs]; rfl

theorem State.start_slb (s : State) (op : Op) (d : Word) : (s.start op d).slb = s.slb := by
  rcases s.start_cases op d with ⟨code, -, hs⟩ | ⟨-, hs⟩
  all_goals rw [hs]; cases op <;> rfl

theorem State.writeCmd_slb (s : State) (d : Word) : (s.writeCmd d).slb = s.slb := by
  rcases s.writeCmd_cases d with ⟨-, hs⟩ | ⟨-, -, hs⟩ | ⟨-, -, -, hs⟩ | ⟨op, -, -, -, hs⟩
  · rw [hs]; rfl
  · rw [hs]; rfl
  · rw [hs]
  · rw [hs]; exact s.start_slb op d

/-- While a command runs a write to CMD only sets HERR (R230). -/
theorem State.writeCmd_busy (hp : s.phase ≠ .idle) (d : Word) : s.writeCmd d = s.setHerr := by
  simp [State.writeCmd, s.busy_iff.2 hp]

/-! ## The latched operands -/

theorem EngineEffect.latchedOperands_eq (he : EngineEffect s t) : t.latchedOperands = s.latchedOperands := by
  cases he with
  | flush => exact s.cmpFlush_frame.1
  | input b rest => exact (State.accumulate_frame (s.inPopped rest) b).1
  | pad => exact (State.accumulate_frame { s with cPadDone := true } 0x00).1
  | _ => rfl

/-- Only a start latches, and no command starts while one runs. -/
theorem HostEffect.latchedOperands_eq {i : Instr} (he : HostEffect s i t) (hp : s.phase ≠ .idle) :
    t.latchedOperands = s.latchedOperands := by
  cases he with
  | quiet | returns | operands | status => rfl
  | ctrl d => exact (s.writeCtrl_frame d).1
  | command _ d => rw [State.writeCmd_busy hp]; rfl
  | push d => exact (s.pushIn_frame _).1
  | inCtrl d => exact (s.writeInCtrl_frame d).1
  | popOut => exact s.popOut_frame.1
  | popIdx => exact s.popIdx_frame.1
  | windowRead => exact s.slbWindowRead_frame.1
  | windowWrite d => exact s.slbWindowWrite_latchedOperands _

/-- Settles O47: neither an engine step nor a host access while busy changes what is latched. -/
theorem latchedOperandsAreConstant : Obligations.LatchedOperandsAreConstant := by
  intro s t hstep hp hq
  have heq : t.latchedOperands = s.latchedOperands := by
    obtain ⟨es, rfl | he | rfl | ⟨i, -, he⟩⟩ := step_effect hstep
    · rfl
    · exact he.latchedOperands_eq
    · exact absurd rfl hq
    · exact he.latchedOperands_eq hp
  simpa only [State.latchedOperands, Prod.mk.injEq] using heq

/-! ## The SLB -/

/-- An engine step changes the SLB only in DEC, where it writes a range that starts at SLB_COUNT and fits the room of
the scanline (R141, R143). -/
theorem EngineEffect.slb_cases (he : EngineEffect s t) (h : s.Inv) :
    t.slb = s.slb
      ∨ ∃ v m, s.phase = .dec ∧ m ≤ s.room ∧ t.slb = s.slb.fill s.slbCount.toNat v m
          ∧ t.slbCount.toNat = s.slbCount.toNat + m := by
  cases he with
  | flush => exact .inl s.cmpFlush_frame.2
  | input b rest => exact .inl (State.accumulate_frame (s.inPopped rest) b).2
  | pad => exact .inl (State.accumulate_frame { s with cPadDone := true } 0x00).2
  | literal b rest hp hn =>
    obtain ⟨-, hle, -⟩ := h.dec hp
    have hr := State.one_le_room hle hn
    exact .inr ⟨b, 1, hp, hr, rfl, State.decWrote_slbCount hle hr⟩
  | run b rest hp _ hr =>
    obtain ⟨-, hle, -⟩ := h.dec hp
    exact .inr ⟨b, _, hp, hr, rfl, State.decWrote_slbCount hle hr⟩
  | overrun b rest hp =>
    obtain ⟨-, hle, -⟩ := h.dec hp
    exact .inr ⟨b, _, hp, le_rfl, rfl, State.decWrote_slbCount (rest := rest) (v := b) (w := false) hle le_rfl⟩
  | _ => exact .inl rfl

/-- A host access changes the SLB only through the window while idle, at SLB_ADDR (R127). -/
theorem HostEffect.slb_cases {i : Instr} (he : HostEffect s i t) :
    t.slb = s.slb
      ∨ ∃ d v, i = .wrSlbData d ∧ s.phase = .idle ∧ s.slbAddr.toNat < s.params.slbBytes
          ∧ t.slb = s.slb.write s.slbAddr.toNat v := by
  cases he with
  | quiet | returns | operands | status => exact .inl rfl
  | ctrl d => exact .inl (s.writeCtrl_frame d).2
  | command _ d => exact .inl (s.writeCmd_slb d)
  | push d => exact .inl (s.pushIn_frame _).2
  | inCtrl d => exact .inl (s.writeInCtrl_frame d).2
  | popOut => exact .inl s.popOut_frame.2
  | popIdx => exact .inl s.popIdx_frame.2
  | windowRead => exact .inl s.slbWindowRead_frame.2
  | windowWrite d =>
    rcases s.slbWindowWrite_cases (d.extractLsb' 0 8) with ⟨-, hs⟩ | ⟨hp, hlt, hs⟩ | ⟨-, -, hs⟩
    · rw [hs]; exact .inl rfl
    · rw [hs]; exact .inr ⟨d, _, rfl, hp, hlt, rfl⟩
    · rw [hs]; exact .inl rfl

/-- Settles O50: a byte that changes lies in the range a DEC step has filled, or is the one the window has written. -/
theorem whatWritesTheSlb : Obligations.WhatWritesTheSlb := by
  intro s t a h hstep hne
  obtain ⟨es, rfl | he | rfl | ⟨i, hnext, he⟩⟩ := step_effect hstep
  · exact absurd rfl hne
  · rcases he.slb_cases (h.withEvents es) with hs | ⟨v, m, hp, hm, hs, hcount⟩
    · exact absurd (congrFun (State.slbByte_congr hs) a) hne
    · have hin : s.slbCount.toNat ≤ a ∧ a < s.slbCount.toNat + m := by
        by_contra hout
        exact hne ((State.slbByte_of_fill hs a).trans (if_neg hout))
      have hroom : m ≤ s.lN.toNat - s.slbCount.toNat := hm
      exact .inl ⟨hp, hin.1, hin.2.trans_eq hcount.symm, by omega⟩
  · exact absurd rfl hne
  · rcases he.slb_cases with hs | ⟨d, v, rfl, hp, hlt, hs⟩
    · exact absurd (congrFun (State.slbByte_congr hs) a) hne
    · have ha : a = s.slbAddr.toNat := by
        by_contra hout
        exact hne ((State.slbByte_of_write hs a).trans (if_neg hout))
      exact .inr ⟨hp, ha, ha ▸ hlt, d, hnext⟩

end Sys2Proof.Machine
end

section
/-! The engine reads no status flag, no enable and no operand register (R51, R83): it commutes with any change of
them. -/

namespace Sys2Proof.Machine

/-- HERR and the registers that the host writes (R29, R32 to R37). -/
structure HostRegs where
  herr : Bool
  doneIe : Bool
  errIe : Bool
  herrIe : Bool
  len : BitVec 32
  bps : BitVec 4
  planes : BitVec 4
  bpl : BitVec 16
  width : BitVec 17
  slbAddr : BitVec 18

/-- The state with these registers in place of its own. -/
def State.withHostRegs (s : State) (r : HostRegs) : State :=
  { s with
    herr := r.herr, doneIe := r.doneIe, errIe := r.errIe, herrIe := r.herrIe, len := r.len, bps := r.bps
    planes := r.planes, bpl := r.bpl, width := r.width, slbAddr := r.slbAddr }

/-- The engine step with the registers replaced in the state it leaves. -/
def EngineStep.withHostRegs (r : HostRegs) : EngineStep → EngineStep
  | .took t => .took (t.withHostRegs r)
  | .none => .none
  | .holdIn => .holdIn
  | .holdOut => .holdOut
  | .stuck f => .stuck f

variable (s : State) (r : HostRegs)

@[simp] theorem State.withHostRegs_inFifo : (s.withHostRegs r).inFifo = s.inFifo := rfl
@[simp] theorem State.withHostRegs_cHave : (s.withHostRegs r).cHave = s.cHave := rfl
@[simp] theorem State.withHostRegs_phase : (s.withHostRegs r).phase = s.phase := rfl

/-- A choice made by the same condition on both sides of a change `f` commutes with it when its branches do. -/
theorem ite_eq_map_ite {α β : Type} (f : α → β) {c c' : Prop} [Decidable c] [Decidable c'] {x y : α} {x' y' : β}
    (hc : c' ↔ c) (hx : x' = f x) (hy : y' = f y) : (if c' then x' else y') = f (if c then x else y) := by
  rw [apply_ite f, hx, hy]
  exact if_congr hc rfl rfl

theorem State.decWrite_withHostRegs (v : Byte) (m : Nat) {after : State → State}
    (hafter : ∀ t : State, after (t.withHostRegs r) = (after t).withHostRegs r) :
    (s.withHostRegs r).decWrite v m after = (s.decWrite v m after).withHostRegs r :=
  ite_eq_map_ite (EngineStep.withHostRegs r) Iff.rfl
    (congrArg EngineStep.took
      (hafter { s with slb := s.slb.fill s.slbCount.toNat v m, slbCount := s.slbCount + BitVec.ofNat 32 m })) rfl

theorem State.decValueByte_withHostRegs (b : Byte) (rest : List Byte) :
    (s.withHostRegs r).decValueByte b rest = (s.decValueByte b rest).withHostRegs r :=
  State.decWrite_withHostRegs (s.inPopped rest) r _ _ fun _ =>
    ite_eq_map_ite (State.withHostRegs · r) Iff.rfl rfl rfl

theorem State.decUnitByte_withHostRegs (b : Byte) (rest : List Byte) :
    (s.withHostRegs r).decUnitByte b rest = (s.decUnitByte b rest).withHostRegs r :=
  ite_eq_map_ite (EngineStep.withHostRegs r) Iff.rfl rfl
    (State.decWrite_withHostRegs (s.inPopped rest) r b 1 fun _ => rfl)

theorem State.decStep_withHostRegs : (s.withHostRegs r).decStep = s.decStep.withHostRegs r := by
  refine ite_eq_map_ite (EngineStep.withHostRegs r) Iff.rfl (ite_eq_map_ite _ Iff.rfl rfl rfl) ?_
  rw [State.withHostRegs_inFifo]
  cases s.inFifo with
  | nil => exact ite_eq_map_ite _ Iff.rfl rfl rfl
  | cons b rest =>
    exact ite_eq_map_ite _ Iff.rfl (s.decValueByte_withHostRegs r b rest) (s.decUnitByte_withHostRegs r b rest)

theorem State.accumulate_withHostRegs (b : Byte) :
    (s.withHostRegs r).accumulate b = (s.accumulate b).withHostRegs r := by
  refine ite_eq_map_ite (State.withHostRegs · r) Iff.rfl
    (ite_eq_map_ite (State.withHostRegs · r) Iff.rfl rfl rfl) ?_
  rw [State.withHostRegs_cHave]
  cases s.cHave <;> rfl

theorem State.cmpFlush_withHostRegs : (s.withHostRegs r).cmpFlush = s.cmpFlush.withHostRegs r := by
  unfold State.cmpFlush
  rw [State.withHostRegs_cHave]
  cases s.cHave <;> rfl

theorem State.cmpStep_withHostRegs : (s.withHostRegs r).cmpStep = s.cmpStep.withHostRegs r := by
  refine ite_eq_map_ite (EngineStep.withHostRegs r) Iff.rfl
    (ite_eq_map_ite _ Iff.rfl rfl (congrArg EngineStep.took (s.cmpFlush_withHostRegs r)))
    (ite_eq_map_ite _ Iff.rfl ?_
      (ite_eq_map_ite _ Iff.rfl rfl
        (congrArg EngineStep.took (State.accumulate_withHostRegs { s with cPadDone := true } r 0x00))))
  rw [State.withHostRegs_inFifo]
  cases s.inFifo with
  | nil => exact ite_eq_map_ite _ Iff.rfl rfl rfl
  | cons b rest =>
    exact ite_eq_map_ite _ Iff.rfl rfl (congrArg EngineStep.took ((s.inPopped rest).accumulate_withHostRegs r b))

theorem State.unpStep_withHostRegs : (s.withHostRegs r).unpStep = s.unpStep.withHostRegs r :=
  ite_eq_map_ite (EngineStep.withHostRegs r) Iff.rfl rfl
    (ite_eq_map_ite _ Iff.rfl rfl (ite_eq_map_ite _ Iff.rfl rfl (ite_eq_map_ite _ Iff.rfl rfl rfl)))

theorem State.engineStep_withHostRegs : (s.withHostRegs r).engineStep = s.engineStep.withHostRegs r := by
  unfold State.engineStep
  rw [State.withHostRegs_phase]
  cases s.phase with
  | idle => rfl
  | dec => exact s.decStep_withHostRegs r
  | cmp => exact s.cmpStep_withHostRegs r
  | unp => exact s.unpStep_withHostRegs r

theorem State.engineTurn_withHostRegs {t : State} (h : s.engineTurn = .next t) :
    (s.withHostRegs r).engineTurn = .next (t.withHostRegs r) := by
  unfold State.engineTurn at h ⊢
  rw [State.engineStep_withHostRegs]
  cases he : s.engineStep <;> simp_all [EngineStep.withHostRegs]

/-- With no event to come, a step is a turn of the engine (R82). -/
theorem step_of_no_events (hev : s.events = []) : step s = s.engineTurn := by simp [step, State.turn, hev]

/-- Settles O48: with no event to come the step is a turn of the engine, which commutes with the change. -/
theorem engineIgnoresFlagsAndOperandRegisters : Obligations.EngineIgnoresFlagsAndOperandRegisters := by
  intro s herr doneIe errIe herrIe len bps planes bpl width slbAddr t hev hstep
  rw [step_of_no_events s hev] at hstep
  let r : HostRegs := ⟨herr, doneIe, errIe, herrIe, len, bps, planes, bpl, width, slbAddr⟩
  exact (step_of_no_events (s.withHostRegs r) hev).trans (s.engineTurn_withHostRegs r hstep)

end Sys2Proof.Machine
end

section
/-! The wait flags of STATUS, which say what the engine's next step holds for (R30, R290); the values at power-up; and
the sample transactions. -/

namespace Sys2Proof.Machine

variable {s : State}

/-! ## The holds of each phase -/

/-- A DEC write is taken or stuck: it waits for nothing. -/
theorem State.decWrite_not_hold (s : State) (v : Byte) (m : Nat) (after : State → State) :
    s.decWrite v m after ≠ .holdIn ∧ s.decWrite v m after ≠ .holdOut := by
  unfold State.decWrite
  split <;> simp

theorem State.decStep_ne_holdOut (s : State) : s.decStep ≠ .holdOut := by
  rcases s.decStep_cases with ⟨-, -, hs⟩ | ⟨-, -, hs⟩ | ⟨-, -, -, hs⟩ | ⟨-, -, -, hs⟩
    | ⟨b, rest, -, -, ⟨-, hs⟩ | ⟨-, -, hs⟩ | ⟨-, -, hs⟩⟩
  all_goals simp [hs, State.decValueByte, State.decWrite_not_hold]

/-- DEC waits for input exactly when it needs a byte, there is none, and more may come (R143). -/
theorem State.decStep_eq_holdIn_iff :
    s.decStep = .holdIn ↔ s.slbCount ≠ s.lN ∧ s.inFifo = [] ∧ s.eos = false := by
  rcases s.decStep_cases with ⟨hn, -, hs⟩ | ⟨hn, -, hs⟩ | ⟨-, -, he, hs⟩ | ⟨hn, hf, he, hs⟩
    | ⟨b, rest, -, hf, ⟨-, hs⟩ | ⟨-, -, hs⟩ | ⟨-, -, hs⟩⟩
  · simp [hs, hn]
  · simp [hs, hn]
  · simp [hs, he]
  · simp [hs, hn, hf, he]
  · simp [hs, hf, State.decValueByte, State.decWrite_not_hold]
  · simp [hs, hf]
  · simp [hs, hf, State.decWrite_not_hold]

/-- CMP waits for input exactly when it needs a byte, there is none, and more may come (R175). -/
theorem State.cmpStep_eq_holdIn_iff :
    s.cmpStep = .holdIn ↔ s.inCount < s.lLen ∧ s.inFifo = [] ∧ s.eos = false := by
  rcases s.cmpStep_cases with ⟨heq, -, -, -, hs⟩ | ⟨heq, -, -, hs⟩ | ⟨-, -, he, hs⟩ | ⟨hl, hf, he, hs⟩
    | ⟨b, rest, -, hf, ⟨-, hs⟩ | ⟨-, hs⟩⟩ | ⟨-, hl, ⟨-, hs⟩ | ⟨-, hs⟩⟩
  · simp [hs, heq]
  · simp [hs, heq]
  · simp [hs, he]
  · simp [hs, hl, hf, he]
  · simp [hs, hf]
  · simp [hs, hf]
  · simp [hs, hl]
  · simp [hs, hl]

/-- CMP waits for output in three places, each where fewer than two bytes of output space are left: with a byte to
take, with the pad byte due, and with a pending run to flush (R175). -/
theorem State.cmpStep_eq_holdOut_iff (hle : s.inCount.toNat ≤ s.lLen.toNat) :
    s.cmpStep = .holdOut ↔ s.outFree < 2
      ∧ ((s.inCount < s.lLen ∧ s.inFifo ≠ [])
        ∨ (s.inCount = s.lLen ∧ s.needPad = true ∧ s.cPadDone = false)
        ∨ (s.inCount = s.lLen ∧ (s.needPad = false ∨ s.cPadDone = true) ∧ s.cHave = true)) := by
  rcases s.cmpStep_cases with ⟨heq, hd, hc, ho, hs⟩ | ⟨heq, hd, hc, hs⟩ | ⟨hl, hf, -, hs⟩ | ⟨hl, hf, -, hs⟩
    | ⟨b, rest, hl, hf, ⟨ho, hs⟩ | ⟨ho, hs⟩⟩ | ⟨hn, hl, ⟨ho, hs⟩ | ⟨ho, hs⟩⟩
  · simp [hs, heq, hd, hc, ho]
  · rw [hs]
    refine iff_of_false nofun ?_
    rintro ⟨ho, ⟨hl, -⟩ | ⟨-, hpad, hdone⟩ | ⟨-, -, hhave⟩⟩
    · exact BitVec.ne_of_lt hl heq
    · simp [hpad, hdone] at hd
    · exact absurd ho (Nat.not_lt.2 (hc.resolve_left (by simp [hhave])))
  · simp [hs, hf, BitVec.ne_of_lt hl]
  · simp [hs, hf, BitVec.ne_of_lt hl]
  · simp [hs, hf, hl, ho]
  · simp [hs, Nat.not_lt.2 ho]
  · simp [hs, ho, State.pad_due hle hn hl]
  · simp [hs, Nat.not_lt.2 ho]

/-- UNP waits for output exactly when a column is left and the index FIFO is full (R210). -/
theorem State.unpStep_eq_holdOut_iff :
    s.unpStep = .holdOut ↔ s.idxCount.toNat ≠ s.lWidth.toNat ∧ s.idxFree = 0 := by
  rcases s.unpStep_cases with ⟨hw, hs⟩ | ⟨hw, hi, hs⟩ | ⟨-, hi, -, hs⟩ | ⟨-, hi, -, -, hs⟩ | ⟨-, hi, -, -, hs⟩
  · simp [hs, hw]
  · simp [hs, hw, hi]
  all_goals simp [hs, hi]

theorem State.unpStep_ne_holdIn (s : State) : s.unpStep ≠ .holdIn := by
  rcases s.unpStep_cases with ⟨-, hs⟩ | ⟨-, -, hs⟩ | ⟨-, -, -, hs⟩ | ⟨-, -, -, -, hs⟩ | ⟨-, -, -, -, hs⟩
  all_goals simp [hs]

/-! ## The wait flags -/

theorem State.inWait_iff : s.inWait = true ↔ s.engineStep = .holdIn := by
  unfold State.inWait
  cases s.engineStep <;> simp

theorem State.outWait_iff : s.outWait = true ↔ s.engineStep = .holdOut := by
  unfold State.outWait
  cases s.engineStep <;> simp

/-- Settles O13: the flags are the holds of the running phase, and a step holds for one thing. -/
theorem waitFlagsAreTheHolds : Obligations.WaitFlagsAreTheHolds := by
  intro s h
  obtain ⟨-, hout, hidx⟩ := h.fifos
  have hboth : ¬(s.inWait = true ∧ s.outWait = true) := fun ⟨hi, ho⟩ =>
    nomatch (State.inWait_iff.1 hi).symm.trans (State.outWait_iff.1 ho)
  refine ⟨State.inWait_iff.trans ?_, State.outWait_iff.trans ?_, hboth⟩
  · cases hp : s.phase with
    | idle => simp [State.engineStep, hp]
    | dec =>
      obtain ⟨-, hle, -⟩ := h.dec hp
      have hne : s.slbCount ≠ s.lN ↔ s.slbCount.toNat < s.lN.toNat := by
        rw [Ne, ← BitVec.toNat_inj]; omega
      simp only [State.engineStep, hp, State.decStep_eq_holdIn_iff, hne, reduceCtorEq, true_and, false_and, or_false]
      tauto
    | cmp =>
      simp only [State.engineStep, hp, State.cmpStep_eq_holdIn_iff, BitVec.lt_def, reduceCtorEq, true_and, false_and,
        false_or]
      tauto
    | unp => simp [State.engineStep, hp, State.unpStep_ne_holdIn]
  · cases hp : s.phase with
    | idle => simp [State.engineStep, hp]
    | dec => simp [State.engineStep, hp, State.decStep_ne_holdOut]
    | cmp =>
      obtain ⟨-, hle, -⟩ := h.cmp hp
      have hfree : s.outFree < 2 ↔ s.params.outDepth < s.outFifo.length + 2 := by
        unfold State.outFree; omega
      simp [State.engineStep, hp, State.cmpStep_eq_holdOut_iff hle, hfree, BitVec.lt_def]
    | unp =>
      obtain ⟨-, -, hle⟩ := h.unp hp
      have hfree : s.idxFree = 0 ↔ s.idxFifo.length = s.params.idxDepth := by
        unfold State.idxFree; omega
      have hlt : s.idxCount.toNat ≠ s.lWidth.toNat ↔ s.idxCount.toNat < s.lWidth.toNat := by omega
      simp [State.engineStep, hp, State.unpStep_eq_holdOut_iff, hfree, hlt]

/-! ## Power-up -/

/-- STATUS reads 0 where the block is idle and every stored flag is clear: then it waits for nothing, and IRQ is low
(R25, R30, R265). -/
theorem State.statusWord_eq_zero (hp : s.phase = .idle) (hd : s.done = false) (he : s.err = false)
    (hc : s.errcode = .none) (hh : s.herr = false) : s.statusWord = 0 := by
  have hidle : s.engineStep = .none := by simp [State.engineStep, hp]
  simp [State.statusWord, State.irq, State.inWait, State.outWait, State.busy, Phase.toBits, ErrorCode.toBits,
    hidle, hp, hd, he, hc, hh]

/-- IRQ_EN reads 0 where no enable is set (R35). -/
theorem State.irqEnWord_eq_zero (hd : s.doneIe = false) (he : s.errIe = false) (hh : s.herrIe = false) :
    s.irqEnWord = 0 := by
  simp [State.irqEnWord, hd, he, hh]

/-- GEOM reads 0 where its fields are 0 (R33). -/
theorem State.geomWord_eq_zero (hb : s.bps = 0) (hp : s.planes = 0) (hl : s.bpl = 0) : s.geomWord = 0 := by
  simp [State.geomWord, hb, hp, hl]

/-- Settles O9: the stored values of R52 are those of the definition, and the words read are made of them. -/
theorem resetValues : Obligations.ResetValues := by
  refine ⟨rfl, fun p => ?_⟩
  exact ⟨rfl, ⟨_, rfl, rfl⟩, State.statusWord_eq_zero rfl rfl rfl rfl rfl, rfl, rfl,
    State.geomWord_eq_zero rfl rfl rfl, rfl, State.irqEnWord_eq_zero rfl rfl rfl,
    rfl, rfl, rfl, rfl, rfl, rfl, rfl, rfl, rfl, rfl, rfl, rfl, rfl, rfl, rfl, rfl⟩

/-! ## Sample transactions -/

/-- Settles O1: each transaction is read off the map and the CMD words by evaluation. -/
theorem someTransactionsDecode : Obligations.SomeTransactionsDecode :=
  ⟨rfl, rfl, rfl, rfl, rfl, rfl, rfl, rfl, rfl⟩

end Sys2Proof.Machine
end

section
/-! The decoder: what its tables hold, then the decoding of a transaction against the interface contract (R71, R72,
R74, R97, R102). -/

namespace Sys2Proof

variable {base addr size off : Nat} {lanes : List Byte} {d : Word} {i : Instr}

/-! ## Byte lanes -/

/-- The lanes of a word made of four bytes are those bytes, bit by bit (R74). -/
theorem lanesOfWord_append (b0 b1 b2 b3 : Byte) : lanesOfWord (b3 ++ b2 ++ b1 ++ b0) = [b0, b1, b2, b3] := by
  simp only [lanesOfWord, List.cons.injEq, and_true]
  refine ⟨?_, ?_, ?_, ?_⟩ <;> ext k hk <;> grind

/-- The lanes are those of the word they make: no bit of them is dropped. -/
theorem lanesOfWord_of_wordOfLanes (h : wordOfLanes lanes = some d) : lanesOfWord d = lanes := by
  unfold wordOfLanes at h
  split at h
  next => cases h; exact lanesOfWord_append _ _ _ _
  next => cases h

/-- Four lanes, and only four, make a word (R71). -/
theorem exists_wordOfLanes_iff : (∃ d, wordOfLanes lanes = some d) ↔ lanes.length = 4 := by
  unfold wordOfLanes
  split
  next => simp
  next hne =>
    simp only [reduceCtorEq, exists_false, false_iff, List.length_eq_four]
    rintro ⟨b0, b1, b2, b3, rfl⟩
    exact hne _ _ _ _ rfl

/-! ## The tables of operations -/

/-- The operation of a CMD word is well formed, and its transaction is the write of that word (R97, R103). -/
theorem wf_and_encode_decodeCmd (base : Nat) (d : Word) :
    (decodeCmd d).wf = true ∧ encode base (decodeCmd d) = writeAt base 0x0C d := by
  unfold decodeCmd
  split_ifs
  case neg => simp_all [Instr.wf, legalCmdWords, encode]
  all_goals subst d; exact ⟨rfl, rfl⟩

/-- Each row of the read table is at an aligned offset and is the operation whose transaction is the read there. -/
theorem decodeRead_eq_some (h : decodeRead off = some i) :
    off % 4 = 0 ∧ i.wf = true ∧ ∀ base, encode base i = readAt base off := by
  unfold decodeRead at h
  split at h <;> cases h <;> exact ⟨rfl, rfl, fun _ => rfl⟩

/-- Each row of the write table is at an aligned offset and is the operation whose transaction is the write there.
The fourth row, CMD, is itself a table of words. -/
theorem decodeWrite_eq_some (h : decodeWrite off d = some i) :
    off % 4 = 0 ∧ i.wf = true ∧ ∀ base, encode base i = writeAt base off d := by
  unfold decodeWrite at h
  split at h
  case h_4 =>
    cases h
    exact ⟨rfl, (wf_and_encode_decodeCmd 0 d).1, fun base => (wf_and_encode_decodeCmd base d).2⟩
  all_goals cases h <;> exact ⟨rfl, rfl, fun _ => rfl⟩

/-- The read table has a row at each of the 64 aligned offsets. -/
theorem decodeRead_rows :
    (List.range 64).map (fun k => (decodeRead (4 * k)).isSome) = List.replicate 64 true := rfl

/-- The write table has a row at each of the 64 aligned offsets, whatever the word. -/
theorem decodeWrite_rows (d : Word) :
    (List.range 64).map (fun k => (decodeWrite (4 * k) d).isSome) = List.replicate 64 true := rfl

/-- A row of a table listed over the first `n` numbers is in the list. -/
theorem mem_of_map_range_eq {α : Type} {f : Nat → α} {n k : Nat} {l : List α} (h : (List.range n).map f = l)
    (hk : k < n) : f k ∈ l :=
  h ▸ List.mem_map_of_mem (List.mem_range.2 hk)

/-- Every aligned read in the aperture has a row. -/
theorem exists_decodeRead (hlt : off < 256) (hal : off % 4 = 0) : ∃ i, decodeRead off = some i := by
  have hmem := mem_of_map_range_eq decodeRead_rows (k := off / 4) (by omega)
  rw [show 4 * (off / 4) = off by omega] at hmem
  exact Option.isSome_iff_exists.1 (List.eq_of_mem_replicate hmem)

/-- Every aligned write in the aperture has a row. -/
theorem exists_decodeWrite (hlt : off < 256) (hal : off % 4 = 0) (d : Word) : ∃ i, decodeWrite off d = some i := by
  have hmem := mem_of_map_range_eq (decodeWrite_rows d) (k := off / 4) (by omega)
  rw [show 4 * (off / 4) = off by omega] at hmem
  exact Option.isSome_iff_exists.1 (List.eq_of_mem_replicate hmem)

/-! ## Transactions -/

/-- A read decodes to `i` when it is addressed to the aperture, is 32 bits wide, and `i` is its row of the table. -/
theorem decode_read_eq_ok_iff :
    decode base (.read addr size) = .ok i ↔
      (base ≤ addr ∧ addr < base + 256) ∧ size = 4 ∧ decodeRead (addr - base) = some i := by
  simp only [decode]
  split_ifs with hout hsize
  · simp; omega
  · simp [hsize]
  · have haddr : base ≤ addr ∧ addr < base + 256 := by omega
    cases decodeRead (addr - base) <;> simp [haddr, not_not.1 hsize]

/-- A write decodes to `i` when it is addressed to the aperture, its lanes make a word, and `i` is its row of the
table. -/
theorem decode_write_eq_ok_iff :
    decode base (.write addr lanes) = .ok i ↔
      (base ≤ addr ∧ addr < base + 256)
        ∧ ∃ d, wordOfLanes lanes = some d ∧ decodeWrite (addr - base) d = some i := by
  simp only [decode]
  split_ifs with hout
  · simp; omega
  · have haddr : base ≤ addr ∧ addr < base + 256 := by omega
    cases wordOfLanes lanes with
    | none => simp
    | some d => cases hrow : decodeWrite (addr - base) d <;> simp [haddr, hrow]

/-- Settles O3: the row that a transaction decodes to is encoded at that row's offset, and a write's lanes are those
of its word. -/
theorem encodeOfDecode : Obligations.EncodeOfDecode := by
  intro base a i h
  cases a with
  | read addr size =>
    obtain ⟨⟨hle, -⟩, rfl, hrow⟩ := decode_read_eq_ok_iff.1 h
    obtain ⟨-, hwf, henc⟩ := decodeRead_eq_some hrow
    exact ⟨by rw [henc, readAt, Nat.add_sub_cancel' hle], hwf⟩
  | write addr lanes =>
    obtain ⟨⟨hle, -⟩, d, hd, hrow⟩ := decode_write_eq_ok_iff.1 h
    obtain ⟨-, hwf, henc⟩ := decodeWrite_eq_some hrow
    exact ⟨by rw [henc, writeAt, Nat.add_sub_cancel' hle, lanesOfWord_of_wordOfLanes hd], hwf⟩

/-- Settles O4: the rows of the two tables are exactly the aligned offsets of the aperture. -/
theorem decodesExactlyInContract : Obligations.DecodesExactlyInContract := by
  intro base a
  cases a with
  | read addr size =>
    simp only [decode_read_eq_ok_iff, BusAccess.inContract, Bool.and_eq_true, decide_eq_true_eq]
    constructor
    · rintro ⟨i, haddr, hsize, hrow⟩
      exact ⟨⟨haddr, hsize⟩, (decodeRead_eq_some hrow).1⟩
    · rintro ⟨⟨haddr, hsize⟩, hal⟩
      obtain ⟨i, hrow⟩ := exists_decodeRead (by omega) hal
      exact ⟨i, haddr, hsize, hrow⟩
  | write addr lanes =>
    simp only [decode_write_eq_ok_iff, BusAccess.inContract, Bool.and_eq_true, decide_eq_true_eq]
    constructor
    · rintro ⟨i, haddr, d, hd, hrow⟩
      exact ⟨⟨haddr, exists_wordOfLanes_iff.1 ⟨d, hd⟩⟩, (decodeWrite_eq_some hrow).1⟩
    · rintro ⟨⟨haddr, hlen⟩, hal⟩
      obtain ⟨d, hd⟩ := exists_wordOfLanes_iff.2 hlen
      obtain ⟨i, hrow⟩ := exists_decodeWrite (by omega) hal d
      exact ⟨i, haddr, d, hd, hrow⟩

/-- A transaction is rejected exactly outside the contract. -/
theorem decode_error_iff (base : Nat) (a : BusAccess) :
    (∃ why, decode base a = .error why) ↔ a.inContract base = false := by
  rw [← Bool.not_eq_true, ← decodesExactlyInContract base a]
  cases decode base a <;> simp

end Sys2Proof
end

section
/-! The schedule: what a step does with each kind of event at the head of the list (R79, R80, R235), and the accesses
at the unmapped offsets (R72). -/

namespace Sys2Proof.Machine

variable {s : State} {a : BusAccess} {es : List Event} {i : Instr}

/-! ## The step, by the next event -/

/-- A host access inside the contract is performed. -/
theorem step_of_decode_ok (hev : s.events = .host a :: es) (hd : decode s.params.baseAddr a = .ok i) :
    step s = exec i (s.withEvents es) := by
  simp [step, State.turn, State.hostTurn, hev, hd]

/-- A host access outside the contract is refused by the name of its rejection. -/
theorem step_of_decode_error {why : AccessReject} (hev : s.events = .host a :: es)
    (hd : decode s.params.baseAddr a = .error why) : step s = .refused (.badAccess why) := by
  simp [step, State.turn, State.hostTurn, hev, hd]

/-- A turn of the engine at the head of the events is the engine's own. -/
theorem step_of_engine (hev : s.events = .engine :: es) : step s = (s.withEvents es).engineTurn := by
  simp [step, State.turn, hev]

/-- An assertion of the reset input at the head of the events resets the block (R280). -/
theorem step_of_hardReset (hev : s.events = .hardReset :: es) : step s = .next (s.withEvents es).resetBlock := by
  simp [step, State.turn, hev]

/-- Settles O6: the operation is performed in the state without that event. -/
theorem stepPerformsDecodedAccess : Obligations.StepPerformsDecodedAccess :=
  fun _ _ _ _ => step_of_decode_ok

/-- A step refuses only a host access that does not decode: the engine, a reset and every operation refuse nothing. -/
theorem step_refused_iff :
    (∃ r, step s = .refused r) ↔
      ∃ a es, s.events = .host a :: es ∧ ∃ why, decode s.params.baseAddr a = .error why := by
  constructor
  · rintro ⟨r, hr⟩
    rcases hev : s.events with _ | ⟨e, es⟩
    case nil => exact absurd ((step_of_no_events s hev).symm.trans hr) (s.engineTurn_not_refused r)
    cases e with
    | engine => exact absurd ((step_of_engine hev).symm.trans hr) ((s.withEvents es).engineTurn_not_refused r)
    | hardReset => cases (step_of_hardReset hev).symm.trans hr
    | host a =>
      refine ⟨a, es, rfl, ?_⟩
      cases hd : decode s.params.baseAddr a with
      | error why => exact ⟨why, rfl⟩
      | ok i =>
        obtain ⟨t, ht⟩ := exec_next i (s.withEvents es)
        cases (ht.symm.trans (step_of_decode_ok hev hd).symm).trans hr
  · rintro ⟨a, es, hev, why, hd⟩
    exact ⟨_, step_of_decode_error hev hd⟩

/-- Settles O7: a step refuses what does not decode, which is what lies outside the contract. -/
theorem stepRefusesExactlyOutsideContract : Obligations.StepRefusesExactlyOutsideContract := by
  intro s
  simp only [step_refused_iff, decode_error_iff]

/-! ## The engine in any schedule -/

/-- The engine step with `es` for the events of the state it leaves. -/
def EngineStep.withEvents (es : List Event) : EngineStep → EngineStep
  | .took t => .took (t.withEvents es)
  | .none => .none
  | .holdIn => .holdIn
  | .holdOut => .holdOut
  | .stuck f => .stuck f

variable (s es)

theorem State.decWrite_withEvents (v : Byte) (m : Nat) {after : State → State}
    (hafter : ∀ t : State, after (t.withEvents es) = (after t).withEvents es) :
    (s.withEvents es).decWrite v m after = (s.decWrite v m after).withEvents es :=
  ite_eq_map_ite (EngineStep.withEvents es) Iff.rfl (congrArg EngineStep.took
    (hafter { s with slb := s.slb.fill s.slbCount.toNat v m, slbCount := s.slbCount + BitVec.ofNat 32 m })) rfl

theorem State.decStep_withEvents : (s.withEvents es).decStep = s.decStep.withEvents es := by
  refine ite_eq_map_ite (EngineStep.withEvents es) Iff.rfl (ite_eq_map_ite _ Iff.rfl rfl rfl) ?_
  rw [State.withEvents_inFifo]
  cases s.inFifo with
  | nil => exact ite_eq_map_ite _ Iff.rfl rfl rfl
  | cons b rest =>
    refine ite_eq_map_ite _ Iff.rfl ?value ?unit
    case value =>
      exact (s.inPopped rest).decWrite_withEvents es b _ fun _ =>
        ite_eq_map_ite (State.withEvents · es) Iff.rfl rfl rfl
    case unit =>
      exact ite_eq_map_ite _ Iff.rfl rfl ((s.inPopped rest).decWrite_withEvents es b 1 fun _ => rfl)

theorem State.accumulate_withEvents (b : Byte) : (s.withEvents es).accumulate b = (s.accumulate b).withEvents es := by
  refine ite_eq_map_ite (State.withEvents · es) Iff.rfl
    (ite_eq_map_ite (State.withEvents · es) Iff.rfl rfl rfl) ?_
  rw [State.withEvents_cHave]
  cases s.cHave <;> rfl

theorem State.cmpFlush_withEvents : (s.withEvents es).cmpFlush = s.cmpFlush.withEvents es := by
  unfold State.cmpFlush
  rw [State.withEvents_cHave]
  cases s.cHave <;> rfl

theorem State.cmpStep_withEvents : (s.withEvents es).cmpStep = s.cmpStep.withEvents es := by
  have hpad : State.accumulate { s.withEvents es with cPadDone := true } 0x00 =
        (State.accumulate { s with cPadDone := true } 0x00).withEvents es :=
    State.accumulate_withEvents { s with cPadDone := true } es 0x00
  refine ite_eq_map_ite (EngineStep.withEvents es) Iff.rfl
    (ite_eq_map_ite _ Iff.rfl rfl (congrArg EngineStep.took (s.cmpFlush_withEvents es)))
    (ite_eq_map_ite _ Iff.rfl ?input
      (ite_eq_map_ite _ Iff.rfl rfl (congrArg EngineStep.took hpad)))
  case input =>
    rw [State.withEvents_inFifo]
    cases s.inFifo with
    | nil => exact ite_eq_map_ite _ Iff.rfl rfl rfl
    | cons b rest =>
      exact ite_eq_map_ite _ Iff.rfl rfl
        (congrArg EngineStep.took ((s.inPopped rest).accumulate_withEvents es b))

theorem State.unpStep_withEvents : (s.withEvents es).unpStep = s.unpStep.withEvents es :=
  ite_eq_map_ite (EngineStep.withEvents es) Iff.rfl rfl
    (ite_eq_map_ite _ Iff.rfl rfl (ite_eq_map_ite _ Iff.rfl rfl (ite_eq_map_ite _ Iff.rfl rfl rfl)))

/-- The engine's step neither reads the events nor changes them. -/
theorem State.engineStep_withEvents : (s.withEvents es).engineStep = s.engineStep.withEvents es := by
  unfold State.engineStep
  rw [State.withEvents_phase]
  cases s.phase with
  | idle => rfl
  | dec => exact s.decStep_withEvents es
  | cmp => exact s.cmpStep_withEvents es
  | unp => exact s.unpStep_withEvents es

/-- A turn of the engine has one outcome, a next state or a fault, whatever the events are, and keeps them. -/
theorem State.engineTurn_withEvents :
    (∃ t : State, ∀ es, (s.withEvents es).engineTurn = .next (t.withEvents es))
      ∨ ∃ f, ∀ es, (s.withEvents es).engineTurn = .fault f := by
  unfold State.engineTurn
  simp only [State.engineStep_withEvents]
  cases s.engineStep with
  | none | holdIn | holdOut => exact .inl ⟨s, fun _ => rfl⟩
  | took t => exact .inl ⟨t, fun _ => rfl⟩
  | stuck f => exact .inr ⟨f, fun _ => rfl⟩

/-- In IDLE a turn of the engine changes nothing (R235). -/
theorem State.engineTurn_idle (hp : s.phase = .idle) : s.engineTurn = .next s := by
  simp [State.engineTurn, State.engineStep, hp]

/-- Settles O8: alone or at the head of a schedule, the step is the engine's turn, which does not depend on the
events. -/
theorem engineTurnsInAnySchedule : Obligations.EngineTurnsInAnySchedule := by
  intro s es
  have halone : step { s with events := [] } = (s.withEvents []).engineTurn := step_of_no_events _ rfl
  have hhead : step { s with events := .engine :: es } = (s.withEvents es).engineTurn := step_of_engine rfl
  rw [halone, hhead]
  refine ⟨?_, fun hp => ⟨(s.withEvents []).engineTurn_idle hp, (s.withEvents es).engineTurn_idle hp⟩⟩
  rcases s.engineTurn_withEvents with ⟨t, ht⟩ | ⟨f, hf⟩
  · exact .inl ⟨t.withEvents [], ht [], rfl, ht es⟩
  · exact .inr ⟨f, hf [], hf es⟩

/-! ## Unmapped offsets -/

/-- The unmapped reads are the rows of the read table from 0x4C on, in order. -/
theorem unmappedReads_rows :
    (List.range 45).map (fun k => decodeRead (0x4C + 4 * k)) = Instr.unmappedReads.map some := rfl

/-- The unmapped writes are the rows of the write table from 0x4C on, in order. -/
theorem unmappedWrites_rows (d : Word) :
    (List.range 45).map (fun k => decodeWrite (0x4C + 4 * k) d) = (Instr.unmappedWrites d).map some := rfl

/-- Each unmapped read returns 0 and changes nothing else. -/
theorem exec_unmappedReads (s : State) :
    Instr.unmappedReads.map (exec · s) = List.replicate 45 (.next (s.ret 0)) := rfl

/-- Each unmapped write changes nothing. -/
theorem exec_unmappedWrites (s : State) (d : Word) :
    (Instr.unmappedWrites d).map (exec · s) = List.replicate 45 (.next s) := rfl

/-- Settles O20: every access of the two lists is quiet, and the lists are the tables' rows from 0x4C to 0xFC. -/
theorem unmappedOffsetsAreQuiet : Obligations.UnmappedOffsetsAreQuiet := by
  intro s d
  refine ⟨fun i hi => ?_, fun i hi => ?_, fun off hlo hhi hal => ?_⟩
  · exact List.eq_of_mem_replicate (exec_unmappedReads s ▸ List.mem_map_of_mem hi)
  · exact List.eq_of_mem_replicate (exec_unmappedWrites s d ▸ List.mem_map_of_mem hi)
  · have hk : (off - 0x4C) / 4 < 45 := by omega
    have hread := mem_of_map_range_eq unmappedReads_rows hk
    have hwrite := mem_of_map_range_eq (unmappedWrites_rows d) hk
    rw [show 0x4C + 4 * ((off - 0x4C) / 4) = off by omega] at hread hwrite
    simpa [eq_comm] using And.intro (List.mem_map.1 hread) (List.mem_map.1 hwrite)

end Sys2Proof.Machine
end

section
/-! The encoder against the decoder: the transaction of an operation decodes to it (R91, R102, R103). -/

namespace Sys2Proof

variable {base off : Nat} {d : Word} {i : Instr}

/-! ## The CMD words -/

/-- `wrCmd` spells the words that are none of the six (R97; log entry 7). -/
theorem decodeCmd_eq_wrCmd_iff : decodeCmd d = .wrCmd d ↔ d ∉ legalCmdWords := by
  unfold decodeCmd
  split_ifs <;> simp_all [legalCmdWords]

/-- `wrCmd` is well formed with a word that is none of the six. -/
theorem wf_wrCmd_iff : (Instr.wrCmd d).wf = true ↔ d ∉ legalCmdWords := by
  simp [Instr.wf]

/-! ## Decoding what is encoded -/

/-- The lanes of a word make that word (R74). -/
theorem wordOfLanes_lanesOfWord (d : Word) : wordOfLanes (lanesOfWord d) = some d := by
  simp only [lanesOfWord, wordOfLanes, Option.some.injEq]
  ext k hk
  grind

/-- A 32-bit read at an offset of the aperture decodes to its row of the read table. -/
theorem decode_readAt (hoff : off < 256) (hrow : decodeRead off = some i) : decode base (readAt base off) = .ok i :=
  decode_read_eq_ok_iff.2 ⟨⟨by omega, by omega⟩, rfl, by rwa [Nat.add_sub_cancel_left]⟩

/-- A 32-bit write at an offset of the aperture decodes to its row of the write table. -/
theorem decode_writeAt (hoff : off < 256) (hrow : decodeWrite off d = some i) :
    decode base (writeAt base off d) = .ok i :=
  decode_write_eq_ok_iff.2
    ⟨⟨by omega, by omega⟩, d, wordOfLanes_lanesOfWord d, by rwa [Nat.add_sub_cancel_left]⟩

/-- Settles O2: each operation's transaction is a read or a write at an offset whose row is that operation; the row of
CMD is `wrCmd` for the words that are none of the six. -/
theorem decodeOfEncode : Obligations.DecodeOfEncode := by
  intro base i hwf
  cases i with
  | wrCmd d =>
    have hcmd : decodeCmd d = .wrCmd d := decodeCmd_eq_wrCmd_iff.2 (wf_wrCmd_iff.1 hwf)
    exact decode_writeAt (by decide) (congrArg some hcmd)
  | rdId | rdCtrl | rdStatus | rdCmd | rdLen | rdGeom | rdWidth | rdIrqEn | rdInData | rdInCtrl | rdOutData | rdIdxData
  | rdLevels | rdSlbAddr | rdSlbData | rdInCount | rdOutCount | rdSlbCount | rdIdxCount
  | rdUnmapped4C | rdUnmapped50 | rdUnmapped54 | rdUnmapped58 | rdUnmapped5C | rdUnmapped60 | rdUnmapped64
  | rdUnmapped68 | rdUnmapped6C | rdUnmapped70 | rdUnmapped74 | rdUnmapped78 | rdUnmapped7C | rdUnmapped80
  | rdUnmapped84 | rdUnmapped88 | rdUnmapped8C | rdUnmapped90 | rdUnmapped94 | rdUnmapped98 | rdUnmapped9C
  | rdUnmappedA0 | rdUnmappedA4 | rdUnmappedA8 | rdUnmappedAC | rdUnmappedB0 | rdUnmappedB4 | rdUnmappedB8
  | rdUnmappedBC | rdUnmappedC0 | rdUnmappedC4 | rdUnmappedC8 | rdUnmappedCC | rdUnmappedD0 | rdUnmappedD4
  | rdUnmappedD8 | rdUnmappedDC | rdUnmappedE0 | rdUnmappedE4 | rdUnmappedE8 | rdUnmappedEC | rdUnmappedF0
  | rdUnmappedF4 | rdUnmappedF8 | rdUnmappedFC => exact decode_readAt (by decide) rfl
  | _ => exact decode_writeAt (by decide) rfl

end Sys2Proof
end

section
/-! The CMD words: a word by its fields, the six that are legal, and what a write of each does (R90, R96, R97, R103). -/

namespace Sys2Proof.Machine

/-- OP, P and the reserved bits are the whole of a CMD word (R90). -/
theorem cmdWord_toNat (d : Word) :
    d.toNat = (cmdOp d).toNat + 16 * (cmdPad d).toNat + 32 * (cmdReserved d).toNat := by
  have hlt := d.isLt
  have hpad : (cmdPad d).toNat = d.toNat / 16 % 2 := by
    rw [cmdPad, BitVec.getLsbD, Nat.toNat_testBit]
  simp only [hpad, cmdOp, cmdReserved, BitVec.extractLsb'_toNat, Nat.shiftRight_eq_div_pow]
  omega

/-- R96's three conditions, by the numbers the fields hold. -/
theorem illegalCmd_eq_false_iff_fields {d : Word} :
    illegalCmd d = false ↔
      (cmdOp d).toNat < 5 ∧ (cmdReserved d).toNat = 0 ∧ (cmdPad d = true → (cmdOp d).toNat = 2) := by
  simp [illegalCmd, BitVec.toNat_eq, and_assoc]

/-- R96's three conditions leave the six words of R97: the five values of OP, and OP = 2 with P set. -/
theorem illegalCmd_eq_false_iff {d : Word} : illegalCmd d = false ↔ d ∈ legalCmdWords := by
  simp only [legalCmdWords, List.mem_cons, List.not_mem_nil, or_false]
  constructor
  · intro h
    obtain ⟨hop, hres, hpad⟩ := illegalCmd_eq_false_iff_fields.1 h
    have hd := cmdWord_toNat d
    simp only [BitVec.toNat_eq, BitVec.reduceToNat]
    cases hp : cmdPad d with
    | false =>
      rw [hp, Bool.toNat_false] at hd
      omega
    | true =>
      have hop2 := hpad hp
      rw [hp, Bool.toNat_true] at hd
      omega
  · rintro (rfl | rfl | rfl | rfl | rfl | rfl) <;> rfl

/-- A command does what the write of its word to CMD does (R103, R230). -/
theorem exec_decodeCmd (d : Word) (s : State) : exec (decodeCmd d) s = exec (.wrCmd d) s := by
  unfold decodeCmd
  split_ifs
  case neg => rfl
  all_goals subst d; rfl

/-- Settles O5: the legal words are the six, and `wrCmd` is what the decoder answers for exactly the others. -/
theorem sixLegalCommandWords : Obligations.SixLegalCommandWords := by
  intro d
  refine ⟨?_, ?_, exec_decodeCmd d⟩
  · simp [illegalCmd_eq_false_iff, legalCmdWords]
  · rw [decodeCmd_eq_wrCmd_iff, ← illegalCmd_eq_false_iff, Bool.not_eq_false]

end Sys2Proof.Machine
end

section
/-! The unpack modes and the index of a column, bit by bit (R94, R212 to R214). -/

namespace Sys2Proof.Machine

/-- The mode of a pair, by the numbers its fields hold (R94). -/
theorem unpackMode_eq_toNat (planes bps : BitVec 4) :
    unpackMode planes bps =
      if (planes.toNat, bps.toNat) = (1, 8) then .byte
      else if (planes.toNat, bps.toNat) ∈ [(1, 1), (1, 2), (1, 4)] then .sub
      else if (planes.toNat, bps.toNat) ∈ [(2, 1), (3, 1), (4, 1)] then .planar
      else .none := by
  simp [unpackMode, BitVec.toNat_eq, ← and_or_left, ← or_and_right]

/-- Bit k of a SUB index is bit k of the field of column x, the field numbered x mod spb from the top of its byte (R212). -/
theorem subIndex_getLsbD (bps : Nat) (b : Byte) (x : Nat) {k : Nat} (hk : k < 8) :
    (subIndex bps b x).getLsbD k = (decide (k < bps) && b.getLsbD (8 - bps * (x % (8 / bps) + 1) + k)) := by
  rw [subIndex, BitVec.getLsbD_and, BitVec.getLsbD_ushiftRight, BitVec.getLsbD_ofNat, Nat.testBit_two_pow_sub_one,
    decide_eq_true hk, Bool.true_and, Bool.and_comm]

/-- The first planes give only the bits below their number. -/
theorem planarIndex_lt (byteAt : Nat → Byte) (bpl x planes : Nat) :
    planarIndex byteAt bpl x planes < 2 ^ planes := by
  induction planes with
  | zero => simp [planarIndex]
  | succ i ih =>
    rw [planarIndex, Nat.shiftLeft_eq, Nat.pow_succ]
    rcases Nat.mod_two_eq_zero_or_one ((byteAt (i * bpl + x / 8)).toNat >>> (7 - x % 8)) with hbit | hbit
    · rw [hbit]; omega
    · rw [hbit]; omega

/-- Bit k of a PLANAR index is plane k's bit of the column (R214). -/
theorem planarIndex_testBit (byteAt : Nat → Byte) (bpl x planes k : Nat) :
    (planarIndex byteAt bpl x planes).testBit k =
      (decide (k < planes) && (byteAt (k * bpl + x / 8)).getLsbD (7 - x % 8)) := by
  induction planes with
  | zero => simp [planarIndex]
  | succ i ih =>
    rw [planarIndex, Nat.shiftLeft_eq, Nat.add_comm, Nat.mul_comm,
      Nat.testBit_two_pow_mul_add _ (planarIndex_lt byteAt bpl x i)]
    rcases Nat.lt_trichotomy k i with hlt | rfl | hgt
    · simp [hlt, ih, Nat.lt_succ_of_lt hlt]
    · simp [BitVec.getLsbD]
    · have hbit : ((byteAt (i * bpl + x / 8)).toNat >>> (7 - x % 8) % 2).testBit (k - i) = false :=
        Nat.testBit_lt_two_pow ((Nat.mod_lt _ Nat.two_pos).trans_le (Nat.le_self_pow (by omega) 2))
      simp [hbit, show ¬ k < i by omega, show ¬ k < i + 1 by omega]

/-- Settles O40: the table by numbers, and each mode's index by its bits. -/
theorem indexModesAndBits : Obligations.IndexModesAndBits := by
  refine ⟨unpackMode_eq_toNat, fun byteAt bps planes bpl x k hk => ⟨rfl, fun _ => ?_, fun _ => ?_⟩⟩
  · exact subIndex_getLsbD bps _ x hk
  · rw [indexOf, BitVec.getLsbD_ofNat, planarIndex_testBit, decide_eq_true hk, Bool.true_and]

end Sys2Proof.Machine
end

section
/-! The segmentation of a compression's input into runs, and the unit each run is written as (R101, R171, R172). -/

namespace Sys2Proof.Machine

/-! ## Units -/

/-- The run-count bytes are those from 0xC0 up (R99). -/
theorem isRunCount_eq_false_iff (v : Byte) : isRunCount v = false ↔ v.toNat < 0xC0 := by
  have hlt := v.isLt
  simp only [isRunCount, decide_eq_false_iff_not, BitVec.toNat_eq, BitVec.extractLsb'_toNat,
    Nat.shiftRight_eq_div_pow, BitVec.reduceToNat]
  omega

/-- A run-count byte holds its count in the six bits below 0xC0 (R101). -/
theorem runCountByte_eq {n : Nat} (hn : n ≤ 63) : 0xC0#8 ||| BitVec.ofNat 8 n = BitVec.ofNat 8 (0xC0 + n) := by
  have hor : 0xC0 + n = 0xC0 ||| n := Nat.two_pow_add_eq_or_of_lt (i := 6) (by omega) 3
  rw [hor, BitVec.ofNat_or]

/-! ## Runs -/

/-- Neighbouring runs of one value are cut only at the longest length (R172). -/
def CutAt63 (x y : Byte × Nat) : Prop := x.1 = y.1 → x.2 = 63

/-- The first run goes on from the run so far. -/
theorem runsFrom_eq_cons (v : Byte) (n : Nat) (t : List Byte) : ∃ m rs, runsFrom v n t = (v, m) :: rs := by
  fun_induction runsFrom v n t with
  | case1 v n => exact ⟨n, [], rfl⟩
  | case2 v n b t h ih => exact ih
  | case3 v n b t h ih => exact ⟨n, _, rfl⟩

/-- The runs spell the run so far and the bytes after it. -/
theorem flatMap_runsFrom (v : Byte) (n : Nat) (t : List Byte) :
    (runsFrom v n t).flatMap (fun r => List.replicate r.2 r.1) = List.replicate n v ++ t := by
  fun_induction runsFrom v n t with
  | case1 v n => simp
  | case2 v n b t h ih => rw [ih, h.1, List.replicate_succ', List.append_assoc, List.singleton_append]
  | case3 v n b t h ih => rw [List.flatMap_cons, ih, List.replicate_one, List.singleton_append]

/-- Each run has 1 to 63 bytes, if the run so far has. -/
theorem length_of_mem_runsFrom {v : Byte} {n : Nat} {t : List Byte} (h1 : 1 ≤ n) (h63 : n ≤ 63) :
    ∀ r ∈ runsFrom v n t, 1 ≤ r.2 ∧ r.2 ≤ 63 := by
  fun_induction runsFrom v n t with
  | case1 v n => simp [h1, h63]
  | case2 v n b t h ih => exact ih (by omega) (by omega)
  | case3 v n b t h ih => exact List.forall_mem_cons.2 ⟨⟨h1, h63⟩, ih (by decide) (by decide)⟩

/-- Two neighbours hold one value only where the first is full. -/
theorem isChain_runsFrom {v : Byte} {n : Nat} {t : List Byte} (h63 : n ≤ 63) :
    (runsFrom v n t).IsChain CutAt63 := by
  fun_induction runsFrom v n t with
  | case1 v n => exact .singleton _
  | case2 v n b t h ih => exact ih (by omega)
  | case3 v n b t h ih =>
    obtain ⟨m, rs, hrs⟩ := runsFrom_eq_cons b 1 t
    have hcut : CutAt63 (v, n) (b, m) := fun hvb => by
      have : ¬ n < 63 := fun hlt => h ⟨hvb.symm, hlt⟩
      show n = 63
      omega
    rw [hrs]
    exact .cons_cons hcut (hrs ▸ ih (by decide))

/-- Settles O53: the three properties of the cut hold of the runs that follow any run so far. -/
theorem segmentationIntoRunsAndUnits : Obligations.SegmentationIntoRunsAndUnits := by
  refine ⟨fun v n _ hn => ?_, fun t => ⟨rfl, ?_⟩⟩
  · simp only [unit, isRunCount_eq_false_iff, runCountByte_eq hn]
  cases t with
  | nil => simp [runsOf]
  | cons b t =>
    refine ⟨flatMap_runsFrom b 1 t, length_of_mem_runsFrom (by decide) (by decide), fun l₁ l₂ x y hcut => ?_⟩
    have hchain : (runsFrom b 1 t).IsChain CutAt63 := isChain_runsFrom (by decide)
    rw [show runsFrom b 1 t = _ from hcut] at hchain
    exact (List.isChain_append_cons_cons.1 hchain).2.1

end Sys2Proof.Machine
end

section
/-! The registers as the host writes and reads them: STATUS, CTRL, ID, the counters, the operand registers, and the
accesses against a register's direction (R111 to R114, R121 to R125, R128, R130). -/

namespace Sys2Proof.Machine

variable (s : State) (d : Word)

/-! ## STATUS and CTRL -/

/-- The flags of STATUS, bit by bit (R25). -/
theorem State.statusWord_flags :
    s.statusWord.getLsbD 0 = s.busy ∧ s.statusWord.getLsbD 1 = s.done ∧ s.statusWord.getLsbD 2 = s.err
      ∧ s.statusWord.getLsbD 3 = s.herr ∧ s.statusWord.getLsbD 4 = s.inWait ∧ s.statusWord.getLsbD 5 = s.outWait
      ∧ s.statusWord.getLsbD 6 = s.irq ∧ s.statusWord.getLsbD 7 = false := by
  simp only [State.statusWord, BitVec.getLsbD_append]
  simp

/-- The fields of STATUS above its flags: ERRCODE, PHASE and the reserved bits (R25). -/
theorem State.statusWord_fields :
    s.statusWord.extractLsb' 8 4 = s.errcode.toBits ∧ s.statusWord.extractLsb' 12 4 = 0
      ∧ s.statusWord.extractLsb' 16 3 = s.phase.toBits ∧ s.statusWord.extractLsb' 19 13 = 0 := by
  unfold State.statusWord
  simp (disch := decide) only [BitVec.extractLsb'_append_eq_of_le, BitVec.extractLsb'_append_eq_of_add_le,
    Nat.reduceSub, BitVec.extractLsb'_eq_self, and_self]

/-- Settles O12: the word is made of its fields, and the codes and phases have R251's and R45's numbers. -/
theorem statusReadGivesItsFields : Obligations.StatusReadGivesItsFields := by
  intro s
  obtain ⟨hbusy, hdone, herr, hherr, hin, hout, hirq, hzero⟩ := s.statusWord_flags
  obtain ⟨hcode, hlow, hphase, hhigh⟩ := s.statusWord_fields
  refine ⟨s.statusWord, rfl, hbusy, hdone, herr, hherr, hin, hout, hirq, hzero, ?_, hlow, ?_, hhigh⟩
  · rw [hcode]; cases s.errcode <;> rfl
  · rw [hphase]; cases s.phase <;> rfl

/-- Settles O14: an acknowledgement keeps a flag exactly where its bit is clear. -/
theorem statusWriteClears : Obligations.StatusWriteClears := by
  intro s d
  simp only [Bool.if_false_left, Bool.decide_eq_true, Bool.and_comm (!_)]
  rfl

/-- Settles O10: with SRST the block is reset, which leaves the SLB; without it nothing happens. -/
theorem ctrlWriteResets : Obligations.CtrlWriteResets := by
  intro s d
  refine ⟨s.writeCtrl d, rfl, ?_⟩
  rcases s.writeCtrl_cases d with ⟨hset, hs⟩ | ⟨hclear, hs⟩
  · rw [hs]
    refine ⟨fun hclear => (nomatch hset.symm.trans hclear), fun _ => ?_⟩
    exact ⟨State.statusWord_eq_zero rfl rfl rfl rfl rfl, rfl, rfl, rfl, rfl, rfl, rfl,
      State.geomWord_eq_zero rfl rfl rfl, rfl, State.irqEnWord_eq_zero rfl rfl rfl,
      rfl, rfl, rfl, rfl, rfl, rfl, rfl, rfl, rfl, rfl, rfl, rfl, rfl, rfl, rfl, rfl, rfl, rfl, fun _ => rfl⟩
  · exact ⟨fun _ => hs, fun hset => (nomatch hclear.symm.trans hset)⟩

/-! ## ID, the counters, and accesses against a register's direction -/

/-- Settles O15: each read returns the register as it stands, and the write is against ID's direction. -/
theorem idAndCountersRead : Obligations.IdAndCountersRead :=
  fun _ _ => ⟨rfl, rfl, rfl, rfl, rfl, rfl⟩

/-- The reads against a register's direction return 0 and change nothing else (R130). -/
theorem exec_readsAgainstDirection :
    [Instr.rdCtrl, .rdCmd, .rdInData].map (exec · s) = List.replicate 3 (.next (s.ret 0)) := rfl

/-- The writes against a register's direction change nothing (R130). -/
theorem exec_writesAgainstDirection :
    [Instr.wrId d, .wrLevels d, .wrOutData d, .wrIdxData d, .wrInCount d, .wrOutCount d, .wrSlbCount d,
      .wrIdxCount d].map (exec · s) = List.replicate 8 (.next s) := rfl

/-- Settles O19: the eleven accesses are quiet. -/
theorem againstDirectionNothingHappens : Obligations.AgainstDirectionNothingHappens := by
  intro s d
  refine ⟨fun i hi => ?_, fun i hi => ?_⟩
  · exact List.eq_of_mem_replicate (exec_readsAgainstDirection s ▸ List.mem_map_of_mem hi)
  · exact List.eq_of_mem_replicate (exec_writesAgainstDirection s d ▸ List.mem_map_of_mem hi)

/-! ## The operand registers -/

/-- A read is settled by the word it returns. -/
theorem next_ret_congr {v w : Word} (h : v = w) : (.next (s.ret v) : Result) = .next { s with rdata := w } :=
  h ▸ rfl

/-- A register that stores the low `n` bits of a word reads as the word with the other bits masked off. -/
theorem setWidth_extractLsb'_eq_and (n : Nat) :
    (d.extractLsb' 0 n).setWidth 32 = d &&& BitVec.ofNat 32 (2 ^ n - 1) := by
  ext k hk
  simp [← BitVec.getLsbD_eq_getElem, BitVec.getLsbD_ofNat, hk, Bool.and_comm]

/-- Settles O16: LEN keeps the whole word, WIDTH and SLB_ADDR its low 17 and 18 bits. -/
theorem lenWidthSlbAddrReadBack : Obligations.LenWidthSlbAddrReadBack := by
  intro s d
  refine ⟨⟨rfl, rfl⟩, ⟨{ s with width := d.extractLsb' 0 17 }, rfl, rfl, ?_⟩,
    ⟨{ s with slbAddr := d.extractLsb' 0 18 }, rfl, rfl, ?_⟩⟩
  · exact next_ret_congr _ (setWidth_extractLsb'_eq_and d 17)
  · exact next_ret_congr _ (setWidth_extractLsb'_eq_and d 18)

/-- After a write GEOM reads as the word without its bits 15:8 (R33, R122). -/
theorem State.geomWord_writeGeom : (s.writeGeom d).geomWord = d &&& 0xFFFF00FF := by
  have hd : d.extractLsb' 16 16 ++ d.extractLsb' 8 8 ++ d.extractLsb' 4 4 ++ d.extractLsb' 0 4 = d := by
    ext k hk
    grind
  calc (s.writeGeom d).geomWord
    _ = d.extractLsb' 16 16 ++ (0 : BitVec 8) ++ d.extractLsb' 4 4 ++ d.extractLsb' 0 4 := rfl
    _ = (d.extractLsb' 16 16 ++ d.extractLsb' 8 8 ++ d.extractLsb' 4 4 ++ d.extractLsb' 0 4)
          &&& (BitVec.allOnes 16 ++ (0 : BitVec 8) ++ BitVec.allOnes 4 ++ BitVec.allOnes 4) := by
      simp only [BitVec.and_append, BitVec.and_allOnes, BitVec.ofNat_eq_ofNat, BitVec.and_zero]
    _ = d &&& 0xFFFF00FF := by rw [hd]; rfl

/-- Settles O17: the fields are ranges of the word's bits, and GEOM reads as made of them. -/
theorem geomReadsBack : Obligations.GeomReadsBack := by
  intro s d
  refine ⟨s.writeGeom d, rfl, rfl, ?_, ?_, ?_, next_ret_congr _ (s.geomWord_writeGeom d)⟩
  · simp
  · simp [Nat.shiftRight_eq_div_pow]
  · have hlt := d.isLt
    simp only [State.writeGeom_bpl, BitVec.extractLsb'_toNat, Nat.shiftRight_eq_div_pow]
    omega

/-- After a write IRQ_EN reads as the word's bits 1 to 3 alone (R35, R124). -/
theorem State.irqEnWord_writeIrqEn : (s.writeIrqEn d).irqEnWord = d &&& 0x0000000E := by
  have hd : d.extractLsb' 4 28 ++ BitVec.ofBool (d.getLsbD 3) ++ BitVec.ofBool (d.getLsbD 2)
      ++ BitVec.ofBool (d.getLsbD 1) ++ d.extractLsb' 0 1 = d := by
    ext k hk
    grind
  calc (s.writeIrqEn d).irqEnWord
    _ = (0 : BitVec 28) ++ BitVec.ofBool (d.getLsbD 3) ++ BitVec.ofBool (d.getLsbD 2)
          ++ BitVec.ofBool (d.getLsbD 1) ++ (0 : BitVec 1) := rfl
    _ = (d.extractLsb' 4 28 ++ BitVec.ofBool (d.getLsbD 3) ++ BitVec.ofBool (d.getLsbD 2)
          ++ BitVec.ofBool (d.getLsbD 1) ++ d.extractLsb' 0 1)
        &&& ((0 : BitVec 28) ++ BitVec.allOnes 1 ++ BitVec.allOnes 1 ++ BitVec.allOnes 1 ++ (0 : BitVec 1)) := by
      simp only [BitVec.and_append, BitVec.and_allOnes, BitVec.ofNat_eq_ofNat, BitVec.and_zero]
    _ = d &&& 0x0000000E := by rw [hd]; rfl

/-- Settles O18: the enables are bits of the word, and the register and the IRQ level are made of them. -/
theorem irqEnReadsBack : Obligations.IrqEnReadsBack :=
  fun s d => ⟨s.writeIrqEn d, rfl, rfl, next_ret_congr _ (s.irqEnWord_writeIrqEn d), rfl⟩

end Sys2Proof.Machine
end

section
/-! The accesses that move data: the FIFO ports, the FIFO levels and the SLB window (R115 to R120, R126, R127). -/

namespace Sys2Proof.Machine

/-! ## The input FIFO -/

/-- The byte that a write to a data port carries: the word's low 8 bits. -/
theorem extractLsb'_byte (d : Word) : d.extractLsb' 0 8 = BitVec.ofNat 8 (d.toNat % 256) :=
  BitVec.eq_of_toNat_eq (by simp)

/-- Settles O21: a push is refused exactly at EOS or a full FIFO. -/
theorem pushAppendsOrSetsHerr : Obligations.PushAppendsOrSetsHerr := by
  intro s d
  have hexec : exec (.wrInData d) s = .next (s.pushIn (d.extractLsb' 0 8)) := rfl
  rw [hexec, ← extractLsb'_byte]
  rcases s.pushIn_cases (d.extractLsb' 0 8) with ⟨hfull, hs⟩ | ⟨heos, hroom, hs⟩
  · exact ⟨fun _ => congrArg _ hs, fun ⟨heos, hroom⟩ => absurd hfull (by simp [heos, hroom])⟩
  · exact ⟨fun hfull => absurd hfull (by simp [heos, hroom]), fun _ => congrArg _ hs⟩

/-- Settles O23: EOS_SET acts on what FLUSH has left. -/
theorem inCtrlWriteFlushesThenSetsEos : Obligations.InCtrlWriteFlushesThenSetsEos := by
  intro s d
  refine ⟨(s.flushIn d).setEos d, rfl, ?_⟩
  rw [State.setEos_eq]
  rcases s.flushIn_cases d with ⟨hd, hs⟩ | ⟨hd, hp, hs⟩ | ⟨hd, hp, hs⟩
  · rw [hs]
    exact ⟨fun hflush => (nomatch hd.symm.trans hflush), fun hflush => (nomatch hd.symm.trans hflush), fun _ => rfl⟩
  · rw [hs]
    exact ⟨fun _ hidle => absurd hidle hp, fun _ _ => rfl, fun hnone => (nomatch hd.symm.trans hnone)⟩
  · rw [hs]
    exact ⟨fun _ _ => rfl, fun _ hbusy => absurd hp hbusy, fun hnone => (nomatch hd.symm.trans hnone)⟩

/-! ## The levels -/

/-- The number of a word that is made of two fields. -/
theorem toNat_append_eq_add {m n : Nat} (x : BitVec m) (y : BitVec n) :
    (x ++ y).toNat = x.toNat * 2 ^ n + y.toNat := by
  rw [BitVec.toNat_append, ← Nat.shiftLeft_add_eq_or_of_lt y.isLt, Nat.shiftLeft_eq]

/-- Every level fits the 16 bits it is read in (R6, R41 to R43). -/
theorem State.Inv.levels_lt {s : State} (h : s.Inv) :
    s.inFifo.length < 2 ^ 16 ∧ s.outFifo.length < 2 ^ 16 ∧ s.idxFifo.length < 2 ^ 16 := by
  obtain ⟨hin, hout, hidx⟩ := h.fifos
  have hparams := h.params
  simp only [State.ParamsOk, Params.valid, Bool.and_eq_true, decide_eq_true_eq] at hparams
  omega

/-- Settles O22: each word has a level in its upper half, and EOS or a level in its lower half. -/
theorem levelsRead : Obligations.LevelsRead := by
  intro s h
  obtain ⟨hin, hout, hidx⟩ := h.levels_lt
  refine ⟨⟨s.inCtrlWord, rfl, ?_⟩, ⟨s.levelsWord, rfl, ?_⟩⟩
  · have heos : (BitVec.ofBool s.eos).toNat = if s.eos then 1 else 0 := by cases s.eos <;> rfl
    simp only [State.inCtrlWord, toNat_append_eq_add, BitVec.ofNat_eq_ofNat, BitVec.toNat_ofNat, heos]
    omega
  · simp only [State.levelsWord, toNat_append_eq_add, BitVec.toNat_ofNat]
    omega

/-! ## The output and index FIFOs -/

/-- VALID is bit 8 of a popped word (R119). -/
theorem popWord_eq (b : Byte) : popWord b = 0x100 ||| b.setWidth 32 := by
  calc popWord b
    _ = 1#24 ++ b := rfl
    _ = (1#24 ++ 0#8) ||| (0#24 ++ b) := by rw [BitVec.or_append, BitVec.or_zero, BitVec.zero_or]
    _ = 0x100 ||| b.setWidth 32 := by rw [BitVec.setWidth_eq_append (by decide)]; rfl

/-- Settles O24: a pop takes the oldest entry, if there is one. -/
theorem popsTakeTheOldest : Obligations.PopsTakeTheOldest := by
  intro s
  simp only [← popWord_eq]
  exact ⟨fun hf => congrArg _ (State.popOut_nil hf), fun _ _ hf => congrArg _ (State.popOut_cons hf),
    fun hf => congrArg _ (State.popIdx_nil hf), fun _ _ hf => congrArg _ (State.popIdx_cons hf)⟩

/-! ## The SLB window -/

/-- The window address moves on by 1 modulo 2^18 (R37, R75). -/
theorem slbAddr_succ_eq (a : BitVec 18) : a + 1 = BitVec.ofNat 18 ((a.toNat + 1) % 2 ^ 18) :=
  BitVec.eq_of_toNat_eq (by simp)

/-- Settles O25: the three cases of the window, by the phase and the address. -/
theorem slbWindowRead : Obligations.SlbWindowRead := by
  intro s
  have hexec : exec .rdSlbData s = .next s.slbWindowRead := rfl
  rw [hexec, ← slbAddr_succ_eq]
  rcases s.slbWindowRead_cases with ⟨hp, hs⟩ | ⟨hp, hlt, hs⟩ | ⟨hp, hge, hs⟩
  · exact ⟨fun _ => congrArg _ hs, fun hidle => absurd hidle hp, fun hidle => absurd hidle hp⟩
  · exact ⟨fun hbusy => absurd hp hbusy, fun _ _ => congrArg _ hs, fun _ hge => absurd hlt (Nat.not_lt.2 hge)⟩
  · exact ⟨fun hbusy => absurd hp hbusy, fun _ hlt => absurd hlt (Nat.not_lt.2 hge), fun _ _ => congrArg _ hs⟩

/-- Settles O26: the three cases of the window; a write that is stored changes the byte at SLB_ADDR alone. -/
theorem slbWindowWrite : Obligations.SlbWindowWrite := by
  intro s d
  refine ⟨s.slbWindowWrite (d.extractLsb' 0 8), rfl, ?_⟩
  rw [extractLsb'_byte, ← slbAddr_succ_eq]
  rcases s.slbWindowWrite_cases (BitVec.ofNat 8 (d.toNat % 256)) with ⟨hp, hs⟩ | ⟨hp, hlt, hs⟩ | ⟨hp, hge, hs⟩
  · exact ⟨fun _ => hs, fun hidle => absurd hidle hp, fun hidle => absurd hidle hp⟩
  · have hbyte := State.slbByte_of_write (congrArg State.slb hs)
    refine ⟨fun hbusy => absurd hp hbusy, fun _ _ => ⟨?_, ?_, fun a ha => ?_⟩,
      fun _ hge => absurd hlt (Nat.not_lt.2 hge)⟩
    · rw [hs]
    · rw [hbyte, if_pos rfl]
    · rw [hbyte, if_neg ha]
  · exact ⟨fun hbusy => absurd hp hbusy, fun _ hlt => absurd hlt (Nat.not_lt.2 hge), fun _ _ => hs⟩

end Sys2Proof.Machine
end

section
/-! DECOMP's issue, and DecStep case by case: what the engine's step is under each condition of R143. -/

namespace Sys2Proof.Machine

variable {s : State} {b v : Byte} {rest : List Byte}

/-! ## The issue -/

/-- A write of a command's word to CMD while idle starts that command (R230, R231). -/
theorem State.writeCmd_eq_start {d : Word} {op : Op} (hp : s.phase = .idle) (hd : illegalCmd d = false)
    (ho : startedOp d = some op) : s.writeCmd d = s.start op d := by
  simp [State.writeCmd, s.busy_eq_false_iff.2 hp, hd, ho]

/-- The only error of DECOMP's check is LEN_RANGE, for a target length beyond the SLB (R140). -/
theorem State.lenRange_of_issueError {code : ErrorCode} (h : s.issueError .decomp = some code) :
    s.params.slbBytes < s.lN.toNat ∧ code = .lenRange := by
  unfold State.issueError at h
  dsimp only at h
  split_ifs at h with hlen
  exact ⟨Nat.not_le.1 hlen, (Option.some.inj h).symm⟩

/-- Settles O31: the check is on LEN just latched. -/
theorem decompIssue : Obligations.DecompIssue := by
  intro s hp
  refine congrArg Host.Outcome.next ((State.writeCmd_eq_start hp rfl rfl).trans ?_)
  rcases s.start_cases .decomp 1 with ⟨code, hc, hs⟩ | ⟨hc, hs⟩
  · obtain ⟨hbeyond, rfl⟩ := State.lenRange_of_issueError hc
    have hlen : s.params.slbBytes < s.len.toNat := hbeyond
    rw [hs, if_pos hlen]
    rfl
  · have hlen : s.len.toNat ≤ s.params.slbBytes := State.lN_le_of_issueError hc
    rw [hs, if_neg (Nat.not_lt.2 hlen)]
    rfl

/-! ## DecStep -/

/-- At the end of the scanline a command that is not DROW completes, before any pop (R143, R148). -/
theorem State.decStep_complete (hn : s.slbCount = s.lN) (ho : s.op ≠ .drow) : s.decStep = .took s.complete := by
  simp [State.decStep, hn, ho]

/-- At the end of the scanline DROW goes on to its UNP phase (R242). -/
theorem State.decStep_enterUnp (hn : s.slbCount = s.lN) (ho : s.op = .drow) : s.decStep = .took s.enterUnp := by
  simp [State.decStep, hn, ho]

/-- A byte is needed after the end of the stream (R146). -/
theorem State.decStep_truncated (hn : s.slbCount ≠ s.lN) (hf : s.inFifo = []) (he : s.eos = true) :
    s.decStep = .took (s.raiseError .streamTruncated) := by
  simp [State.decStep, hn, hf, he]

/-- A run-count byte is kept until its value byte comes (R99, R143). -/
theorem State.decStep_runCount (hn : s.slbCount ≠ s.lN) (hw : s.dWait = false) (hf : s.inFifo = b :: rest)
    (hb : isRunCount b = true) :
    s.decStep = .took { s.inPopped rest with dCnt := runCount b, dWait := true } := by
  simp [State.decStep, State.decUnitByte, hn, hf, hw, hb]

/-- A literal is written at SLB_COUNT (R99, R143). -/
theorem State.decStep_literal (hn : s.slbCount ≠ s.lN) (hw : s.dWait = false) (hf : s.inFifo = b :: rest)
    (hb : isRunCount b = false) (hfit : s.slbCount.toNat + 1 ≤ s.params.slbBytes) :
    s.decStep = .took (s.decWrote rest b 1 false) := by
  simp [State.decStep, State.decUnitByte, State.decWrite, State.decWrote, hn, hf, hw, hb, hfit]

/-- The value byte of a run that fits the room is written as often as the run's count says (R143, R147). -/
theorem State.decStep_run (hn : s.slbCount ≠ s.lN) (hw : s.dWait = true) (hf : s.inFifo = v :: rest)
    (hr : s.dCnt.toNat ≤ s.room) (hfit : s.slbCount.toNat + s.room ≤ s.params.slbBytes) :
    s.decStep = .took (s.decWrote rest v s.dCnt.toNat false) := by
  have hm : s.slbCount.toNat + s.dCnt.toNat ≤ s.params.slbBytes := by omega
  simp [State.decStep, State.decValueByte, State.decWrite, State.decWrote, hn, hf, hw, hr, hm]

/-- A run that does not fit the room fills it and fails (R145). -/
theorem State.decStep_overrun (hn : s.slbCount ≠ s.lN) (hw : s.dWait = true) (hf : s.inFifo = v :: rest)
    (hr : s.room < s.dCnt.toNat) (hfit : s.slbCount.toNat + s.room ≤ s.params.slbBytes) :
    s.decStep = .took ((s.decWrote rest v s.room false).raiseError .runOverrun) := by
  simp [State.decStep, State.decValueByte, State.decWrite, State.decWrote, hn, hf, hw, hr, hfit,
    Nat.min_eq_right hr.le]

/-- The room of the scanline lies in the SLB (R141). -/
theorem State.slbCount_add_room_le (hle : s.slbCount.toNat ≤ s.lN.toNat) (hN : s.lN.toNat ≤ s.params.slbBytes) :
    s.slbCount.toNat + s.room ≤ s.params.slbBytes := by
  unfold State.room
  omega

/-- In DEC the engine's turn is DecStep's (R235). -/
theorem State.engineTurn_of_decStep {t : State} (hp : s.phase = .dec) (ht : s.decStep = .took t) :
    s.engineTurn = .next t := by
  simp [State.engineTurn, State.engineStep, hp, ht]

/-- Out of bytes before the end of the stream DEC holds (R143). -/
theorem State.engineTurn_decHold (hp : s.phase = .dec) (hn : s.slbCount ≠ s.lN) (hf : s.inFifo = [])
    (he : s.eos = false) : s.engineTurn = .next s := by
  simp [State.engineTurn, State.engineStep, hp, State.decStep_eq_holdIn_iff.2 ⟨hn, hf, he⟩]

/-! ## The single steps -/

/-- A DEC step with no event to come. -/
theorem step_of_decStep {t : State} (hev : s.events = []) (hp : s.phase = .dec) (ht : s.decStep = .took t) :
    step s = .next t :=
  (step_of_no_events s hev).trans (State.engineTurn_of_decStep hp ht)

/-- The run-count bytes are those from 0xC0 up (R99). -/
theorem isRunCount_eq_true_iff (b : Byte) : isRunCount b = true ↔ 0xC0 ≤ b.toNat := by
  rw [← not_iff_not, Bool.not_eq_true, isRunCount_eq_false_iff, Nat.not_le]

/-- Under the invariant a write that fits the room fits the SLB. -/
theorem State.Inv.room_fits (h : s.Inv) (hp : s.phase = .dec) : s.slbCount.toNat + s.room ≤ s.params.slbBytes := by
  obtain ⟨-, hle, hN, -⟩ := h.dec hp
  exact State.slbCount_add_room_le hle hN

/-- Where the compressor's run state is clear already, the end of a command clears only d_wait and d_cnt (R48, R49). -/
theorem State.clearRun_of_cmpClear {t : State}
    (h : t.cHave = false ∧ t.cVal = 0 ∧ t.cCnt = 0 ∧ t.cPadDone = false) :
    t.clearRun = { t with dWait := false, dCnt := 0 } := by
  obtain ⟨hhave, hval, hcnt, hpad⟩ := h
  simp only [State.clearRun, hhave, hval, hcnt, hpad]

/-- During a decompression it is. -/
theorem State.Inv.cmpClear_of_dec (h : s.Inv) (hp : s.phase = .dec) :
    s.cHave = false ∧ s.cVal = 0 ∧ s.cCnt = 0 ∧ s.cPadDone = false := by
  obtain ⟨-, hcmp⟩ := h.runState
  exact hcmp (by simp [hp])

/-- Settles O35: a byte from 0xC0 up is a run-count byte, and a literal fills one place. -/
theorem decTakesUnitByte : Obligations.DecTakesUnitByte := by
  intro s b rest h hev hp hn hw hf
  refine ⟨fun hb => ?runCount, fun hb => ?literal⟩
  case runCount =>
    rw [step_of_decStep hev hp (State.decStep_runCount hn hw hf ((isRunCount_eq_true_iff b).2 hb))]
    have hcnt : runCount b = BitVec.ofNat 6 (b.toNat % 64) := BitVec.eq_of_toNat_eq (by simp [runCount])
    rw [hcnt]
    rfl
  case literal =>
    obtain ⟨-, hle, -⟩ := h.dec hp
    have hroom := State.one_le_room hle hn
    have hfit : s.slbCount.toNat + 1 ≤ s.params.slbBytes := (Nat.add_le_add_left hroom _).trans (h.room_fits hp)
    have hbyte := State.slbByte_of_fill (s := s) (t := s.decWrote rest b 1 false) rfl
    refine ⟨_, step_of_decStep hev hp (State.decStep_literal hn hw hf ((isRunCount_eq_false_iff b).2 hb) hfit), ?_, ?_,
      fun a ha => ?_⟩
    · simp [State.decWrote, State.inPopped, hw]
    · rw [hbyte, if_pos (by omega)]
    · rw [hbyte, if_neg (by omega)]

/-- Settles O36: the copies written are the run's count, or the room when the count is beyond it. -/
theorem decWritesRun : Obligations.DecWritesRun := by
  intro s v rest h hev hp hn hw hf
  obtain ⟨-, hle, -⟩ := h.dec hp
  have hfit := h.room_fits hp
  rcases Nat.lt_or_ge s.room s.dCnt.toNat with hr | hr
  · have hcount := State.decWrote_slbCount (rest := rest) (v := v) (w := false) hle le_rfl
    have hmin : min s.dCnt.toNat (s.lN.toNat - s.slbCount.toNat) = s.room := Nat.min_eq_right hr.le
    refine ⟨_, step_of_decStep hev hp (State.decStep_overrun hn hw hf hr hfit), rfl, rfl, rfl, ?_, fun a => ?_,
      fun hfits => absurd hr (Nat.not_lt.2 hfits), fun _ => ?_⟩
    · rw [hmin, State.raiseError_slbCount, hcount]
    · rw [State.raiseError_slbCount, hcount]
      exact State.slbByte_of_fill rfl a
    · exact State.clearRun_of_cmpClear (h.cmpClear_of_dec hp)
  · have hcount := State.decWrote_slbCount (rest := rest) (v := v) (w := false) hle hr
    have hmin : min s.dCnt.toNat (s.lN.toNat - s.slbCount.toNat) = s.dCnt.toNat := Nat.min_eq_left hr
    refine ⟨_, step_of_decStep hev hp (State.decStep_run hn hw hf hr hfit), rfl, rfl, rfl, ?_, fun a => ?_,
      fun _ => rfl, fun hover => absurd hr (Nat.not_le.2 hover)⟩
    · rw [hmin, hcount]
    · rw [hcount]
      exact State.slbByte_of_fill rfl a

/-- Settles O37: in each case the step is the one of R143, and the end of the command clears d_wait and d_cnt. -/
theorem decEndsOrHolds : Obligations.DecEndsOrHolds := by
  intro s h hev hp
  have hclear := h.cmpClear_of_dec hp
  refine ⟨fun hn ho => ?_, fun hn ho => ?_, fun hn hf he => ?_, fun hn hf he => ?_⟩
  · rw [step_of_decStep hev hp (State.decStep_complete hn (by simp [ho]))]
    exact congrArg Host.Outcome.next (State.clearRun_of_cmpClear hclear)
  · exact step_of_decStep hev hp (State.decStep_enterUnp hn ho)
  · rw [step_of_decStep hev hp (State.decStep_truncated hn hf he)]
    exact congrArg Host.Outcome.next (State.clearRun_of_cmpClear hclear)
  · exact (step_of_no_events s hev).trans (State.engineTurn_decHold hp hn hf he)

end Sys2Proof.Machine
end

section
/-! The reference decoder on a stream cut after whole units: what it has decoded by then, and how it goes on (R142). -/

namespace Sys2Proof.Machine

variable {n : Nat} {b v : Byte} {x units pending out : List Byte}

/-! ## One unit of the reference -/

/-- Nothing more is wanted. -/
theorem rleDecode_zero (x : List Byte) : rleDecode x 0 = ⟨[], 0, .none⟩ := by
  cases x <;> simp [rleDecode.eq_def]

theorem rleDecode_nil (hn : n ≠ 0) : rleDecode [] n = ⟨[], 0, .streamTruncated⟩ := by
  simp [rleDecode, hn]

theorem rleDecode_literal (hn : n ≠ 0) (hb : isRunCount b = false) :
    rleDecode (b :: x) n = (rleDecode x (n - 1)).after [b] 1 := by
  rw [rleDecode.eq_def]
  simp [hn, hb]

theorem rleDecode_countByte (hn : n ≠ 0) (hb : isRunCount b = true) :
    rleDecode [b] n = ⟨[], 1, .streamTruncated⟩ := by
  rw [rleDecode]
  simp [hn, hb]

theorem rleDecode_run (hn : n ≠ 0) (hb : isRunCount b = true) (hc : (runCount b).toNat ≤ n) :
    rleDecode (b :: v :: x) n =
      (rleDecode x (n - (runCount b).toNat)).after (List.replicate (runCount b).toNat v) 2 := by
  rw [rleDecode]
  simp [hn, hb, Nat.not_lt.2 hc]

theorem rleDecode_overrun (hn : n ≠ 0) (hb : isRunCount b = true) (hc : n < (runCount b).toNat) :
    rleDecode (b :: v :: x) n = ⟨List.replicate n v, 2, .runOverrun⟩ := by
  rw [rleDecode]
  simp [hn, hb, hc]

theorem Decoded.after_after (r : Decoded) (bs cs : List Byte) (j k : Nat) :
    (r.after cs j).after bs k = r.after (bs ++ cs) (k + j) := by
  simp [Decoded.after, Nat.add_assoc]

/-! ## Whole units -/

/-- `units` is a sequence of whole units that a decoding to length `n` takes as `out`, whatever follows: it goes on
from there as a decoding to the length that is left. -/
def DecodesTo (n : Nat) (units out : List Byte) : Prop :=
  ∀ x, rleDecode (units ++ x) n = (rleDecode x (n - out.length)).after out units.length

theorem DecodesTo.nil (n : Nat) : DecodesTo n [] [] := fun x => by
  simp [Decoded.after]

/-- One more literal. -/
theorem DecodesTo.literal (h : DecodesTo n units out) (hlt : out.length < n) (hb : isRunCount b = false) :
    DecodesTo n (units ++ [b]) (out ++ [b]) := fun x => by
  rw [List.append_assoc, List.singleton_append, h, rleDecode_literal (by omega) hb, Decoded.after_after,
    List.length_append, List.length_append, Nat.sub_sub]
  rfl

/-- One more run that fits. -/
theorem DecodesTo.run (h : DecodesTo n units out) (hlt : out.length < n) (hb : isRunCount b = true)
    (hc : (runCount b).toNat ≤ n - out.length) (v : Byte) :
    DecodesTo n (units ++ [b, v]) (out ++ List.replicate (runCount b).toNat v) := fun x => by
  rw [List.append_assoc, List.cons_append, List.singleton_append, h, rleDecode_run (by omega) hb hc,
    Decoded.after_after, List.length_append, List.length_append, List.length_replicate, Nat.sub_sub]
  rfl

/-! ## The ends of a decoding -/

/-- All that is wanted has been decoded. -/
theorem DecodesTo.complete (h : DecodesTo n units out) (hlen : out.length = n) (x : List Byte) :
    rleDecode (units ++ x) n = ⟨out, units.length, .none⟩ := by
  rw [h, hlen, Nat.sub_self, rleDecode_zero]
  simp [Decoded.after]

/-- The next run is longer than what is wanted. -/
theorem DecodesTo.overrun (h : DecodesTo n units out) (hlt : out.length < n) (hb : isRunCount b = true)
    (hc : n - out.length < (runCount b).toNat) (v : Byte) (x : List Byte) :
    rleDecode (units ++ b :: v :: x) n =
      ⟨out ++ List.replicate (n - out.length) v, units.length + 2, .runOverrun⟩ := by
  rw [h, rleDecode_overrun (by omega) hb hc]
  rfl

/-- What DEC has taken of a unit that is not yet whole, by its d_wait and d_cnt (R48): nothing, or a run-count byte whose
count it keeps. -/
inductive PendingUnit : Bool → BitVec 6 → List Byte → Prop
  | none (count : BitVec 6) : PendingUnit false count []
  | run (b : Byte) (hb : isRunCount b = true) : PendingUnit true (runCount b) [b]

theorem PendingUnit.eq_nil {wait : Bool} {count : BitVec 6} (h : PendingUnit wait count pending)
    (hw : wait = false) : pending = [] := by
  cases h with
  | none => rfl
  | run => cases hw

theorem PendingUnit.eq_countByte {wait : Bool} {count : BitVec 6} (h : PendingUnit wait count pending)
    (hw : wait = true) : ∃ b, pending = [b] ∧ isRunCount b = true ∧ count = runCount b := by
  cases h with
  | none => cases hw
  | run b hb => exact ⟨b, rfl, hb, rfl⟩

/-- The stream ends before all that is wanted has been decoded, between units or inside one. -/
theorem DecodesTo.truncated {wait : Bool} {count : BitVec 6} (h : DecodesTo n units out) (hlt : out.length < n)
    (hp : PendingUnit wait count pending) :
    rleDecode (units ++ pending) n = ⟨out, (units ++ pending).length, .streamTruncated⟩ := by
  rw [h]
  cases hp with
  | none =>
    rw [rleDecode_nil (by omega)]
    simp [Decoded.after]
  | run b hb =>
    rw [rleDecode_countByte (by omega) hb]
    simp [Decoded.after]

/-! ## Bytes by their index -/

/-- The byte at an index of a sequence that `m` copies of one byte have been appended to. -/
theorem getD_append_replicate (out : List Byte) (m : Nat) (v d : Byte) (a : Nat) :
    (out ++ List.replicate m v).getD a d = if out.length ≤ a ∧ a < out.length + m then v else out.getD a d := by
  rcases Nat.lt_or_ge a out.length with hlt | hge
  · rw [List.getD_append _ _ _ _ hlt, if_neg (by omega)]
  · rw [List.getD_append_right _ _ _ _ hge]
    split_ifs with hin
    · exact List.getD_replicate v (by omega)
    · rw [List.getD_eq_default _ _ (by simp; omega), List.getD_eq_default _ _ hge]

end Sys2Proof.Machine
end

section
/-! DECOMP against its reference (R150): the state of a running DECOMP and of an ended one, as what `rle_decode` makes
of the bytes accepted so far; every DEC step and every access of a feeding host keeps that. -/

namespace Sys2Proof.Machine

variable {s u : State} {fed units pending out : List Byte} {r : Decoded}

/-! ## The running and the ended command -/

/-- The SLB holds `out` from address 0 on, and beyond it what it held in `s` (R142, R144). -/
def State.SlbHolds (s : State) (out : List Byte) (u : State) : Prop :=
  ∀ a, u.slbByte a = out.getD a (s.slbByte a)

/-- `u` is a state of the DECOMP issued in `s`, with the bytes `fed` queued then or accepted since: it has taken the
whole units `units`, which decode to `out`, and the bytes `pending` of the next unit. -/
structure State.Decoding (s : State) (fed units pending out : List Byte) (u : State) : Prop where
  params : u.params = s.params
  phase : u.phase = .dec
  op : u.op = .decomp
  flags : u.done = false ∧ u.err = false ∧ u.errcode = .none
  target : u.lN = s.len
  decodes : DecodesTo s.len.toNat units out
  out_le : out.length ≤ s.len.toNat
  unit : PendingUnit u.dWait u.dCnt pending
  unit_wanted : u.dWait = true → out.length < s.len.toNat
  fed_eq : fed = units ++ pending ++ u.inFifo
  inCount : u.inCount = BitVec.ofNat 32 (units ++ pending).length
  slbCount : u.slbCount.toNat = out.length
  slb : s.SlbHolds out u

/-- The DECOMP issued in `s` has ended in `u` with the outcome `r` of R142: `r` is what the reference gives for the
bytes accepted, and for every stream that goes on from them, unless EOS has closed the stream. -/
structure State.DecodingEnded (s : State) (fed : List Byte) (r : Decoded) (u : State) : Prop where
  params : u.params = s.params
  phase : u.phase = .idle
  flags : u.done = decide (r.status = .none) ∧ u.err = decide (r.status ≠ .none) ∧ u.errcode = r.status
  decodes : ∀ more, u.eos = false ∨ more = [] → rleDecode (fed ++ more) s.len.toNat = r
  taken_le : r.taken ≤ fed.length
  inFifo : u.inFifo = fed.drop r.taken
  inCount : u.inCount = BitVec.ofNat 32 r.taken
  slbCount : u.slbCount.toNat = r.out.length
  slb : s.SlbHolds r.out u

/-- `u` is a state of the DECOMP issued in `s`, running or ended, with the bytes `fed` queued then or accepted since. -/
inductive State.FollowsReference (s : State) (fed : List Byte) (u : State) : Prop
  | running {units pending out : List Byte} (h : s.Decoding fed units pending out u)
  | ended {r : Decoded} (h : s.DecodingEnded fed r u)

/-! ## The issue -/

/-- The state that the issue of a DECOMP leaves where its check passes (R140). -/
def State.decompIssued (s : State) : State := { s.started .decomp with lN := s.len, phase := .dec }

/-- The step that issues a DECOMP whose check passes. -/
theorem step_of_decompIssue {es : List Event} (hp : s.phase = .idle) (hfit : s.len.toNat ≤ s.params.slbBytes)
    (hev : s.events = .host (encode s.params.baseAddr .decomp) :: es) :
    step s = .next (s.decompIssued.withEvents es) := by
  rw [step_of_decode_ok hev (decodeOfEncode _ .decomp rfl), decompIssue (s.withEvents es) hp, State.withEvents_params,
    State.withEvents_len, if_neg (Nat.not_lt.2 hfit)]
  rfl

/-- A DECOMP just issued has taken nothing. -/
theorem State.decoding_issued (s : State) : s.Decoding s.inFifo [] [] [] s.decompIssued where
  params := rfl
  phase := rfl
  op := rfl
  flags := ⟨rfl, rfl, rfl⟩
  target := rfl
  decodes := .nil _
  out_le := Nat.zero_le _
  unit := .none _
  unit_wanted := nofun
  fed_eq := rfl
  inCount := rfl
  slbCount := rfl
  slb := fun _ => rfl

/-! ## Feeding -/

/-- What an access of a feeding host may leave of a state, with the event gone from its list: bytes accepted, EOS,
HERR, and the word a read has returned. -/
def State.feed (u : State) (bs : List Byte) (eos herr : Bool) (w : Word) (es : List Event) : State :=
  { u with inFifo := u.inFifo ++ bs, eos := eos, herr := herr, rdata := w, events := es }

/-- Feeding a running DECOMP only lengthens the stream. -/
theorem State.Decoding.feed (h : s.Decoding fed units pending out u) (bs : List Byte) (eos herr : Bool) (w : Word)
    (es : List Event) : s.Decoding (fed ++ bs) units pending out (u.feed bs eos herr w es) :=
  { h with fed_eq := by rw [h.fed_eq, List.append_assoc]; rfl }

/-- After the end of the command bytes queue up unread; EOS once set, none is accepted. -/
theorem State.DecodingEnded.feed (h : s.DecodingEnded fed r u) {bs : List Byte} {eos : Bool}
    (hclosed : u.eos = true → eos = true ∧ bs = []) (herr : Bool) (w : Word) (es : List Event) :
    s.DecodingEnded (fed ++ bs) r (u.feed bs eos herr w es) :=
  { h with
    decodes := fun more hmore => by
      rw [List.append_assoc]
      refine h.decodes (bs ++ more) ?_
      cases he : u.eos with
      | false => exact .inl rfl
      | true =>
        obtain ⟨heos, hbs⟩ := hclosed he
        exact .inr (by simp [hbs, hmore.resolve_left (by simp [State.feed, heos])])
    taken_le := h.taken_le.trans (by simp)
    inFifo := by
      rw [List.drop_append_of_le_length h.taken_le, ← h.inFifo]
      rfl }

theorem State.FollowsReference.feed (h : s.FollowsReference fed u) {bs : List Byte} {eos : Bool}
    (hclosed : u.eos = true → eos = true ∧ bs = []) (herr : Bool) (w : Word) (es : List Event) :
    s.FollowsReference (fed ++ bs) (u.feed bs eos herr w es) := by
  cases h with
  | running h => exact .running (h.feed bs eos herr w es)
  | ended h => exact .ended (h.feed hclosed herr w es)

/-! ## DEC steps -/

/-- SLB_COUNT is at L_N exactly when all that is wanted has been decoded. -/
theorem State.Decoding.slbCount_eq_iff (h : s.Decoding fed units pending out u) :
    u.slbCount = u.lN ↔ out.length = s.len.toNat := by
  rw [← BitVec.toNat_inj, h.slbCount, h.target]

theorem State.Decoding.room_eq (h : s.Decoding fed units pending out u) :
    u.room = s.len.toNat - out.length := by
  rw [State.room, h.target, h.slbCount]

/-- Writing `m` copies of a byte at SLB_COUNT appends them to what is decoded. -/
theorem State.Decoding.slbHolds_decWrote (h : s.Decoding fed units pending out u) (rest : List Byte) (v : Byte)
    (m : Nat) (w : Bool) : s.SlbHolds (out ++ List.replicate m v) (u.decWrote rest v m w) := fun a => by
  rw [State.slbByte_of_fill (s := u) rfl, getD_append_replicate, h.slbCount, h.slb]

theorem State.Decoding.slbCount_decWrote (h : s.Decoding fed units pending out u) (rest : List Byte) (v : Byte)
    {m : Nat} (hm : m ≤ s.len.toNat - out.length) (w : Bool) :
    (u.decWrote rest v m w).slbCount.toNat = (out ++ List.replicate m v).length := by
  have hle : u.slbCount.toNat ≤ u.lN.toNat := by rw [h.slbCount, h.target]; exact h.out_le
  rw [State.decWrote_slbCount hle (by rwa [h.room_eq]), h.slbCount, List.length_append, List.length_replicate]

theorem State.Decoding.slbCount_add_room_le (h : s.Decoding fed units pending out u)
    (hfit : s.len.toNat ≤ s.params.slbBytes) : u.slbCount.toNat + u.room ≤ u.params.slbBytes :=
  State.slbCount_add_room_le (by rw [h.slbCount, h.target]; exact h.out_le) (by rwa [h.target, h.params])

theorem State.Decoding.out_lt (h : s.Decoding fed units pending out u) (hn : u.slbCount ≠ u.lN) :
    out.length < s.len.toNat :=
  lt_of_le_of_ne h.out_le (h.slbCount_eq_iff.not.1 hn)

/-- IN_COUNT counts a byte that is popped (R38). -/
theorem inCount_succ {c : BitVec 32} {xs : List Byte} (hc : c = BitVec.ofNat 32 xs.length) (b : Byte) :
    c + 1 = BitVec.ofNat 32 (xs ++ [b]).length := by
  rw [hc, List.length_append, BitVec.ofNat_add]
  rfl

/-- At the end of the scanline the command completes as the reference does, whatever follows (R148). -/
theorem State.Decoding.complete (h : s.Decoding fed units pending out u) (hn : u.slbCount = u.lN) :
    s.DecodingEnded fed ⟨out, units.length, .none⟩ u.complete := by
  have hlen := h.slbCount_eq_iff.1 hn
  obtain ⟨-, herr, hcode⟩ := h.flags
  have hpending : pending = [] :=
    h.unit.eq_nil (Bool.eq_false_iff.2 fun hw => absurd hlen (h.unit_wanted hw).ne)
  have hfed : fed = units ++ u.inFifo := by simpa [hpending] using h.fed_eq
  exact {
    params := h.params
    phase := rfl
    flags := ⟨rfl, herr, hcode⟩
    decodes := fun more _ => by rw [hfed, List.append_assoc]; exact h.decodes.complete hlen _
    taken_le := by simp [hfed]
    inFifo := by simp [hfed]
    inCount := by simpa [hpending] using h.inCount
    slbCount := h.slbCount
    slb := h.slb }

/-- Out of bytes after EOS, the command fails as the reference does on a stream that ends there (R146). -/
theorem State.Decoding.truncated (h : s.Decoding fed units pending out u) (hn : u.slbCount ≠ u.lN)
    (hf : u.inFifo = []) (he : u.eos = true) :
    s.DecodingEnded fed ⟨out, (units ++ pending).length, .streamTruncated⟩ (u.raiseError .streamTruncated) := by
  obtain ⟨hdone, -⟩ := h.flags
  have hfed : fed = units ++ pending := by simpa [hf] using h.fed_eq
  exact {
    params := h.params
    phase := rfl
    flags := ⟨hdone, rfl, rfl⟩
    decodes := fun more hmore => by
      rw [hmore.resolve_left (by simp [he]), List.append_nil, hfed]
      exact h.decodes.truncated (h.out_lt hn) h.unit
    taken_le := by rw [hfed]
    inFifo := by simp [hfed, hf]
    inCount := h.inCount
    slbCount := h.slbCount
    slb := h.slb }

/-- A run-count byte is kept. -/
theorem State.Decoding.countByte (h : s.Decoding fed units pending out u) (hn : u.slbCount ≠ u.lN)
    (hw : u.dWait = false) {b : Byte} {rest : List Byte} (hf : u.inFifo = b :: rest) (hb : isRunCount b = true) :
    s.Decoding fed units [b] out { u.inPopped rest with dCnt := runCount b, dWait := true } := by
  have hpending := h.unit.eq_nil hw
  exact {
    params := h.params
    phase := h.phase
    op := h.op
    flags := h.flags
    target := h.target
    decodes := h.decodes
    out_le := h.out_le
    unit := .run b hb
    unit_wanted := fun _ => h.out_lt hn
    fed_eq := by simpa [hpending, hf] using h.fed_eq
    inCount := inCount_succ (by simpa [hpending] using h.inCount) b
    slbCount := h.slbCount
    slb := h.slb }

/-- The last byte of a unit, a literal or the value byte of a run that fits, is written as often as the unit says, and
the unit joins those decoded. -/
theorem State.Decoding.wrote (h : s.Decoding fed units pending out u) {v : Byte} {rest : List Byte}
    (hf : u.inFifo = v :: rest) {m : Nat} (hm : m ≤ s.len.toNat - out.length)
    (hunits : DecodesTo s.len.toNat (units ++ pending ++ [v]) (out ++ List.replicate m v)) :
    s.Decoding fed (units ++ pending ++ [v]) [] (out ++ List.replicate m v) (u.decWrote rest v m false) where
  params := h.params
  phase := h.phase
  op := h.op
  flags := h.flags
  target := h.target
  decodes := hunits
  out_le := by
    have hle := h.out_le
    rw [List.length_append, List.length_replicate]
    omega
  unit := .none _
  unit_wanted := nofun
  fed_eq := by simpa [hf, State.decWrote, State.inPopped] using h.fed_eq
  inCount := by
    rw [List.append_nil]
    exact inCount_succ h.inCount v
  slbCount := h.slbCount_decWrote rest v hm false
  slb := h.slbHolds_decWrote rest v m false

/-- A run beyond the room fails as the reference does, whatever follows its value byte (R145). -/
theorem State.Decoding.overrun (h : s.Decoding fed units pending out u) (hn : u.slbCount ≠ u.lN)
    (hw : u.dWait = true) {v : Byte} {rest : List Byte} (hf : u.inFifo = v :: rest) (hr : u.room < u.dCnt.toNat) :
    s.DecodingEnded fed
      ⟨out ++ List.replicate (s.len.toNat - out.length) v, units.length + 2, .runOverrun⟩
      ((u.decWrote rest v u.room false).raiseError .runOverrun) := by
  obtain ⟨b, hpending, hb, hcount⟩ := h.unit.eq_countByte hw
  obtain ⟨hdone, -⟩ := h.flags
  have hroom := h.room_eq
  have hfed : fed = units ++ b :: v :: rest := by simpa [hpending, hf] using h.fed_eq
  rw [hcount, hroom] at hr
  exact {
    params := h.params
    phase := rfl
    flags := ⟨hdone, rfl, rfl⟩
    decodes := fun more _ => by
      rw [hfed, List.append_assoc]
      exact h.decodes.overrun (h.out_lt hn) hb hr v _
    taken_le := by simp [hfed]
    inFifo := by
      rw [hfed, List.drop_append]
      simp [State.decWrote, State.inPopped]
    inCount := (inCount_succ h.inCount v).trans (by simp [hpending])
    slbCount := by
      rw [hroom]
      exact h.slbCount_decWrote rest v le_rfl false
    slb := by
      rw [hroom]
      exact h.slbHolds_decWrote rest v _ false }

/-- A turn of the engine on a running DECOMP: it holds, takes a byte as the reference does, or ends the command with
the reference's outcome. The events and HERR are the host's (R83). -/
theorem State.Decoding.engineTurn (h : s.Decoding fed units pending out u) (hfit : s.len.toNat ≤ s.params.slbBytes) :
    ∃ t, u.engineTurn = .next t ∧ s.FollowsReference fed t ∧ t.events = u.events ∧ t.herr = u.herr := by
  have hp := h.phase
  have hroom := h.slbCount_add_room_le hfit
  by_cases hn : u.slbCount = u.lN
  · have ho : u.op ≠ .drow := by simp [h.op]
    exact ⟨_, State.engineTurn_of_decStep hp (State.decStep_complete hn ho), .ended (h.complete hn), rfl, rfl⟩
  have hlt := h.out_lt hn
  cases hf : u.inFifo with
  | nil =>
    cases he : u.eos with
    | false => exact ⟨u, State.engineTurn_decHold hp hn hf he, .running h, rfl, rfl⟩
    | true =>
      exact ⟨_, State.engineTurn_of_decStep hp (State.decStep_truncated hn hf he), .ended (h.truncated hn hf he), rfl,
        rfl⟩
  | cons b rest =>
    cases hw : u.dWait with
    | false =>
      have hpending := h.unit.eq_nil hw
      cases hb : isRunCount b with
      | true =>
        exact ⟨_, State.engineTurn_of_decStep hp (State.decStep_runCount hn hw hf hb),
          .running (h.countByte hn hw hf hb), rfl, rfl⟩
      | false =>
        have hone : 1 ≤ u.room := by rw [h.room_eq]; omega
        have hunits : DecodesTo s.len.toNat (units ++ pending ++ [b]) (out ++ List.replicate 1 b) := by
          rw [hpending, List.append_nil]
          exact h.decodes.literal hlt hb
        exact ⟨_, State.engineTurn_of_decStep hp (State.decStep_literal hn hw hf hb (by omega)),
          .running (h.wrote hf (h.room_eq ▸ hone) hunits), rfl, rfl⟩
    | true =>
      obtain ⟨c, hpending, hc, hcount⟩ := h.unit.eq_countByte hw
      rcases Nat.lt_or_ge u.room u.dCnt.toNat with hr | hr
      · exact ⟨_, State.engineTurn_of_decStep hp (State.decStep_overrun hn hw hf hr hroom),
          .ended (h.overrun hn hw hf hr), rfl, rfl⟩
      · have hle : u.dCnt.toNat ≤ s.len.toNat - out.length := h.room_eq ▸ hr
        have hunits : DecodesTo s.len.toNat (units ++ pending ++ [b]) (out ++ List.replicate u.dCnt.toNat b) := by
          rw [hcount] at hle ⊢
          rw [hpending, List.append_assoc, List.singleton_append]
          exact h.decodes.run hlt hc hle b
        exact ⟨_, State.engineTurn_of_decStep hp (State.decStep_run hn hw hf hr hroom),
          .running (h.wrote hf hle hunits), rfl, rfl⟩

/-- A turn of the engine on a DECOMP, running or ended. -/
theorem State.FollowsReference.engineTurn (h : s.FollowsReference fed u) (hfit : s.len.toNat ≤ s.params.slbBytes) :
    ∃ t, u.engineTurn = .next t ∧ s.FollowsReference fed t ∧ t.events = u.events ∧ t.herr = u.herr := by
  cases h with
  | running h => exact h.engineTurn hfit
  | ended h => exact ⟨u, u.engineTurn_idle h.phase, .ended h, rfl, rfl⟩

/-! ## The schedule -/

theorem State.feed_nil (u : State) (eos herr : Bool) (w : Word) (es : List Event) :
    u.feed [] eos herr w es = { u with eos := eos, herr := herr, rdata := w, events := es } := by
  rw [State.feed, List.append_nil]

/-- An access of a feeding host: HERR stays 0 only where the byte it offers, if any, is accepted, and EOS once set lets
no byte in (R115, R117). -/
theorem step_of_feedsStream {a : BusAccess} {i : Instr} {es : List Event} (hev : u.events = .host a :: es)
    (hd : decode u.params.baseAddr a = .ok i) (hi : feedsStream i = true) :
    ∃ bs eos herr w, step u = .next (u.feed bs eos herr w es) ∧ (u.eos = true → eos = true ∧ bs = [])
      ∧ (herr = false → u.herr = false ∧ bs = offeredByte u.params.baseAddr (.host a)) := by
  rw [step_of_decode_ok hev hd]
  cases i with
  | wrInData d =>
    have hoffered : offeredByte u.params.baseAddr (.host a) = [d.extractLsb' 0 8] := by simp [offeredByte, hd]
    have hexec : exec (.wrInData d) (u.withEvents es) = .next ((u.withEvents es).pushIn (d.extractLsb' 0 8)) := rfl
    rw [hexec, hoffered]
    rcases (u.withEvents es).pushIn_cases (d.extractLsb' 0 8) with ⟨-, hs⟩ | ⟨heos, -, hs⟩
    · exact ⟨[], u.eos, true, u.rdata, by rw [hs, State.feed_nil]; rfl, fun he => ⟨he, rfl⟩, nofun⟩
    · exact ⟨_, u.eos, u.herr, u.rdata, congrArg _ hs, fun he => (nomatch he.symm.trans heos), fun he => ⟨he, rfl⟩⟩
  | wrInCtrl d =>
    have hoffered : offeredByte u.params.baseAddr (.host a) = [] := by simp [offeredByte, hd]
    have hexec : exec (.wrInCtrl d) (u.withEvents es) = .next (((u.withEvents es).flushIn d).setEos d) := rfl
    have hflush : d.getLsbD 1 = false := (Bool.not_eq_true' _).mp hi
    have hs : (u.withEvents es).flushIn d = u.withEvents es := if_neg (Bool.eq_false_iff.1 hflush)
    rw [hexec, hoffered, hs, State.setEos_eq]
    exact ⟨[], _, u.herr, u.rdata, by rw [State.feed_nil]; rfl, fun he => ⟨by simp [he], rfl⟩, fun he => ⟨he, rfl⟩⟩
  | rdStatus | rdInCtrl | rdInCount | rdSlbCount =>
    have hoffered : offeredByte u.params.baseAddr (.host a) = [] := by simp [offeredByte, hd]
    rw [hoffered]
    exact ⟨[], u.eos, u.herr, _, by rw [State.feed_nil]; rfl, fun he => ⟨he, rfl⟩, fun he => ⟨he, rfl⟩⟩
  | _ => cases hi

theorem State.FollowsReference.withEvents (h : s.FollowsReference fed u) (es : List Event) :
    s.FollowsReference fed (u.withEvents es) := by
  have hfeed := h.feed (bs := []) (eos := u.eos) (fun he => ⟨he, rfl⟩) u.herr u.rdata es
  rwa [State.feed_nil, List.append_nil] at hfeed

theorem State.FollowsReference.params_eq (h : s.FollowsReference fed u) : u.params = s.params := by
  cases h with
  | running h => exact h.params
  | ended h => exact h.params

/-- A step of a DECOMP, running or ended, at an event of a feeding host or of the engine: the bytes accepted grow by
those the event offers, unless a push is refused, which sets HERR. -/
theorem State.FollowsReference.step (h : s.FollowsReference fed u) (hfit : s.len.toNat ≤ s.params.slbBytes)
    {e : Event} {es : List Event} (hev : u.events = e :: es) (he : streamEvent s.params.baseAddr e = true) :
    ∃ bs t, step u = .next t ∧ s.FollowsReference (fed ++ bs) t ∧ t.events = es
      ∧ (t.herr = false → u.herr = false ∧ bs = offeredByte s.params.baseAddr e) := by
  rw [← h.params_eq] at he ⊢
  cases e with
  | hardReset => cases he
  | engine =>
    obtain ⟨t, ht, hfollows, hevents, hherr⟩ := (h.withEvents es).engineTurn hfit
    rw [← List.append_nil fed] at hfollows
    exact ⟨[], t, (step_of_engine hev).trans ht, hfollows, hevents, fun hf => ⟨hherr.symm.trans hf, rfl⟩⟩
  | host a =>
    cases hd : decode u.params.baseAddr a with
    | error why => simp [streamEvent, hd] at he
    | ok i =>
      obtain ⟨bs, eos, herr, w, hstep, hclosed, hoffered⟩ :=
        step_of_feedsStream hev hd (by simpa [streamEvent, hd] using he)
      exact ⟨bs, _, hstep, h.feed hclosed herr w es, rfl, hoffered⟩

/-- A run whose first step is taken goes on from the state it leaves. -/
theorem run_succ_of_step {u v : State} (h : step u = .next v) (k : Nat) :
    Host.Core.run Sys2Proof.core (k + 1) u = Host.Core.run Sys2Proof.core k v := by
  have hcore : Sys2Proof.core.step u = .next v := h
  simp only [Host.Core.run, hcore]

/-- Along every schedule of a feeding host and the engine the command follows the reference (R150). -/
theorem State.FollowsReference.run {es : List Event} {t : State} (h : s.FollowsReference fed u)
    (hfit : s.len.toNat ≤ s.params.slbBytes) (hev : u.events = es)
    (hes : ∀ e ∈ es, streamEvent s.params.baseAddr e = true)
    (hrun : Host.Core.run Sys2Proof.core es.length u = .next t) :
    ∃ bs, s.FollowsReference (fed ++ bs) t
      ∧ (t.herr = false → u.herr = false ∧ bs = es.flatMap (offeredByte s.params.baseAddr)) := by
  induction es generalizing u fed with
  | nil =>
    cases hrun
    exact ⟨[], by rwa [List.append_nil], fun hf => ⟨hf, rfl⟩⟩
  | cons e es ih =>
    obtain ⟨he, hes⟩ := List.forall_mem_cons.1 hes
    obtain ⟨bs, v, hstep, hv, hvev, hoffered⟩ := h.step hfit hev he
    obtain ⟨cs, ht, hrest⟩ := ih hv hvev hes ((run_succ_of_step hstep _).symm.trans hrun)
    refine ⟨bs ++ cs, by rwa [← List.append_assoc], fun hf => ?_⟩
    obtain ⟨hvf, rfl⟩ := hrest hf
    obtain ⟨huf, rfl⟩ := hoffered hvf
    exact ⟨huf, rfl⟩

/-- Settles O55: the issue has taken nothing, every step of the schedule follows the reference, and a command that has
ended has its outcome. -/
theorem decompAgreesWithReference : Obligations.DecompAgreesWithReference := by
  intro s t es hp hfit hev hes hrun hidle hherr
  rw [run_succ_of_step (step_of_decompIssue hp hfit hev)] at hrun
  have hstart : s.FollowsReference s.inFifo s.decompIssued := .running s.decoding_issued
  obtain ⟨bs, hfollows, hfed⟩ := (hstart.withEvents es).run hfit (State.withEvents_events _ es) hes hrun
  obtain ⟨-, rfl⟩ := hfed hherr
  cases hfollows with
  | running h => cases h.phase.symm.trans hidle
  | ended h =>
    have hr := h.decodes [] (.inr rfl)
    rw [List.append_nil] at hr
    obtain ⟨hdone, herr, hcode⟩ := h.flags
    dsimp only
    rw [hr]
    exact ⟨hdone, herr, hcode, h.slbCount, h.inCount, h.inFifo, h.slb⟩

end Sys2Proof.Machine
end

section
/-! What the runs and units of a compression's output come to: what they decode to (R179), and their size (R178). -/

namespace Sys2Proof.Machine

/-! ## The round trip -/

/-- A run-count byte reads back the count it was made with (R99, R101). -/
theorem runCount_runCountByte {n : Nat} (hn : n ≤ 63) : (runCount (0xC0#8 ||| BitVec.ofNat 8 n)).toNat = n := by
  rw [runCountByte_eq hn]
  simp [runCount]
  omega

theorem isRunCount_runCountByte {n : Nat} (hn : n ≤ 63) : isRunCount (0xC0#8 ||| BitVec.ofNat 8 n) = true := by
  rw [runCountByte_eq hn, isRunCount_eq_true_iff]
  simp
  omega

/-- The unit of a run decodes to the run, where the run is wanted. -/
theorem DecodesTo.unit {n m : Nat} {units out : List Byte} (h : DecodesTo n units out) (h1 : 1 ≤ m) (h63 : m ≤ 63)
    (hfit : out.length + m ≤ n) (v : Byte) :
    DecodesTo n (units ++ Machine.unit v m) (out ++ List.replicate m v) := by
  unfold Machine.unit
  split_ifs with hlit
  · rw [hlit.1]
    exact h.literal (by omega) hlit.2
  · have hrun := h.run (by omega) (isRunCount_runCountByte h63)
      (by rw [runCount_runCountByte h63]; omega) v
    rwa [runCount_runCountByte h63] at hrun

/-- The units of a sequence of runs decode to the bytes the runs spell, where all of them are wanted. -/
theorem DecodesTo.unitsOf {n : Nat} {units out : List Byte} {rs : List (Byte × Nat)} (h : DecodesTo n units out)
    (hrs : ∀ r ∈ rs, 1 ≤ r.2 ∧ r.2 ≤ 63)
    (hfit : (out ++ rs.flatMap fun r => List.replicate r.2 r.1).length ≤ n) :
    DecodesTo n (units ++ Machine.unitsOf rs) (out ++ rs.flatMap fun r => List.replicate r.2 r.1) := by
  induction rs generalizing units out with
  | nil => simpa [Machine.unitsOf] using h
  | cons r rs ih =>
    obtain ⟨⟨h1, h63⟩, hrs⟩ := List.forall_mem_cons.1 hrs
    rw [List.flatMap_cons, ← List.append_assoc] at hfit ⊢
    have hr : out.length + r.2 ≤ n := by simp at hfit; omega
    have hrest := ih (h.unit h1 h63 hr r.1) hrs hfit
    rwa [List.append_assoc] at hrest

/-- Settles O52: the runs of T spell T, so its units decode to T, and nothing is left of them. -/
theorem decodeOfEncodedStream : Obligations.DecodeOfEncodedStream := by
  intro t
  obtain ⟨-, hspell, hrs, -⟩ := segmentationIntoRunsAndUnits.2 t
  have hunits := (DecodesTo.nil t.length).unitsOf hrs (by rw [hspell, List.nil_append])
  rw [hspell] at hunits
  have hend := hunits.complete rfl []
  rwa [List.append_nil] at hend

/-! ## The size of the output -/

/-- The unit of a run has two bytes, or one for a single byte below 0xC0: between the two bounds of R178 for that
run. -/
theorem length_unit_bounds (v : Byte) {n : Nat} (h1 : 1 ≤ n) (h63 : n ≤ 63) :
    2 * (n / 63) + min 2 (n % 63) ≤ (unit v n).length ∧ (unit v n).length ≤ 2 * n := by
  unfold unit
  split_ifs with hlit
  · simp [hlit.1]
  · simp only [List.length_cons, List.length_nil]
    omega

/-- Both bounds of R178 carry over from the runs to the bytes they spell: the lower bound of a sum is at most the sum
of the lower bounds. -/
theorem length_unitsOf_bounds {rs : List (Byte × Nat)} (hrs : ∀ r ∈ rs, 1 ≤ r.2 ∧ r.2 ≤ 63) :
    let n := (rs.flatMap fun r => List.replicate r.2 r.1).length
    2 * (n / 63) + min 2 (n % 63) ≤ (unitsOf rs).length ∧ (unitsOf rs).length ≤ 2 * n := by
  induction rs with
  | nil => simp [unitsOf]
  | cons r rs ih =>
    obtain ⟨⟨h1, h63⟩, hrs⟩ := List.forall_mem_cons.1 hrs
    obtain ⟨hlower, hupper⟩ := ih hrs
    obtain ⟨hunitLower, hunitUpper⟩ := length_unit_bounds r.1 h1 h63
    have hunits : unitsOf (r :: rs) = unit r.1 r.2 ++ unitsOf rs := List.flatMap_cons
    simp only [hunits, List.flatMap_cons, List.length_append, List.length_replicate] at *
    omega

/-- Settles O54: the runs of T have 1 to 63 bytes and spell T. -/
theorem outputSizeBounds : Obligations.OutputSizeBounds := by
  intro t
  obtain ⟨-, hspell, hrs, -⟩ := segmentationIntoRunsAndUnits.2 t
  have hbounds := length_unitsOf_bounds hrs
  rwa [hspell] at hbounds

end Sys2Proof.Machine
end

section
/-! COMP's issue, and CmpStep case by case: what the engine's step is under each condition of R175. -/

namespace Sys2Proof.Machine

variable {s : State} {b : Byte} {rest : List Byte}

/-! ## The issue -/

/-- The state that the issue of a COMP or a COMP.P leaves (R170). -/
def State.compIssued (s : State) (pad : Bool) : State :=
  { s.started .comp with lLen := s.len, lPad := pad, phase := .cmp }

/-- Settles O32: the two words start the command, which has no check to pass. -/
theorem compIssue : Obligations.CompIssue := fun _ hp =>
  ⟨congrArg Host.Outcome.next ((State.writeCmd_eq_start hp rfl rfl).trans rfl),
    congrArg Host.Outcome.next ((State.writeCmd_eq_start hp rfl rfl).trans rfl)⟩

theorem exec_comp_eq (hp : s.phase = .idle) (pad : Bool) :
    exec (if pad then .compP else .comp) s = .next (s.compIssued pad) := by
  obtain ⟨hcomp, hcompP⟩ := compIssue s hp
  cases pad with
  | false => exact hcomp
  | true => exact hcompP

/-! ## CmpStep -/

/-- At the end of the input CMP flushes, where the unit of the pending run, if there is one, has room (R175). -/
theorem State.cmpStep_flush (hn : s.inCount = s.lLen) (hd : s.needPad = false ∨ s.cPadDone = true)
    (ho : s.cHave = false ∨ 2 ≤ s.outFree) : s.cmpStep = .took s.cmpFlush := by
  have hroom : ¬(s.cHave = true ∧ s.outFree < 2) := by
    rintro ⟨hhave, hlt⟩
    exact absurd (ho.resolve_left (by simp [hhave])) (Nat.not_le.2 hlt)
  rw [State.cmpStep, if_pos ⟨hn, hd⟩, if_neg hroom]

/-- A byte is needed after the end of the stream, whatever the output space (R176). -/
theorem State.cmpStep_truncated (hl : s.inCount < s.lLen) (hf : s.inFifo = []) (he : s.eos = true) :
    s.cmpStep = .took (s.raiseError .streamTruncated) := by
  simp [State.cmpStep, BitVec.ne_of_lt hl, hl, hf, he]

/-- A byte of input is accumulated where a unit has room (R175). -/
theorem State.cmpStep_input (hl : s.inCount < s.lLen) (hf : s.inFifo = b :: rest) (ho : 2 ≤ s.outFree) :
    s.cmpStep = .took ((s.inPopped rest).accumulate b) := by
  simp [State.cmpStep, BitVec.ne_of_lt hl, hl, hf, Nat.not_lt.2 ho]

/-- The pad byte is accumulated where a unit has room (R174, R175). -/
theorem State.cmpStep_pad (hn : s.inCount = s.lLen) (hneed : s.needPad = true) (hd : s.cPadDone = false)
    (ho : 2 ≤ s.outFree) : s.cmpStep = .took (State.accumulate { s with cPadDone := true } 0x00) := by
  simp [State.cmpStep, hn, hneed, hd, Nat.not_lt.2 ho]

/-- A CMP step with no event to come. -/
theorem step_of_cmpStep {t : State} (hev : s.events = []) (hp : s.phase = .cmp) (ht : s.cmpStep = .took t) :
    step s = .next t := by
  rw [step_of_no_events s hev]
  simp [State.engineTurn, State.engineStep, hp, ht]

/-- A CMP step that holds changes nothing (R290). -/
theorem step_of_cmpHold (hev : s.events = []) (hp : s.phase = .cmp)
    (hs : s.cmpStep = .holdIn ∨ s.cmpStep = .holdOut) : step s = .next s := by
  rw [step_of_no_events s hev]
  rcases hs with hs | hs
  all_goals simp [State.engineTurn, State.engineStep, hp, hs]

/-- There is room for a unit where two bytes are free. -/
theorem State.two_le_outFree_iff (s : State) : 2 ≤ s.outFree ↔ s.outFifo.length + 2 ≤ s.params.outDepth := by
  unfold State.outFree
  omega

/-! ## The end of the command -/

/-- Where the decompressor's run state is clear already, the end of a command clears only the compressor's (R48,
R49). -/
theorem State.clearRun_of_decClear {t : State} (h : t.dWait = false ∧ t.dCnt = 0) :
    t.clearRun = { t with cHave := false, cVal := 0, cCnt := 0, cPadDone := false } := by
  obtain ⟨hwait, hcnt⟩ := h
  simp only [State.clearRun, hwait, hcnt]

theorem State.complete_of_decClear (h : s.dWait = false ∧ s.dCnt = 0) :
    s.complete =
      { s with phase := .idle, done := true, cHave := false, cVal := 0, cCnt := 0, cPadDone := false } :=
  State.clearRun_of_decClear (t := { s with phase := .idle, done := true }) h

/-- During a compression the decompressor has no run state. -/
theorem State.Inv.decClear_of_cmp (h : s.Inv) (hp : s.phase = .cmp) : s.dWait = false ∧ s.dCnt = 0 := by
  obtain ⟨hdec, -⟩ := h.runState
  exact hdec (by simp [hp])

/-- A compression that has not taken all its input has some left to take (R175). -/
theorem State.Inv.inCount_lt (h : s.Inv) (hp : s.phase = .cmp) (hn : s.inCount ≠ s.lLen) : s.inCount < s.lLen := by
  obtain ⟨-, hle, -⟩ := h.cmp hp
  exact BitVec.lt_def.2 (lt_of_le_of_ne hle (mt BitVec.eq_of_toNat_eq hn))

/-- Settles O38: in each case the step is the one of R175, and the end of the command clears the pending run. -/
theorem cmpEndsOrHolds : Obligations.CmpEndsOrHolds := by
  intro s h hev hp
  have hclear := h.decClear_of_cmp hp
  refine ⟨fun hn hd hhave => ?complete, fun hn hd hhave hroom => ?flush, fun hn hf he => ?truncated,
    fun hn hf he => ?holdIn, fun hfull hinput hflush => ?holdOut⟩
  case complete =>
    rw [step_of_cmpStep hev hp (State.cmpStep_flush hn hd (.inl hhave))]
    obtain ⟨hhave', -⟩ | ⟨-, hs⟩ := s.cmpFlush_cases
    · simp [hhave] at hhave'
    · rw [hs, State.complete_of_decClear hclear]
      simp only [hhave]
  case flush =>
    rw [step_of_cmpStep hev hp (State.cmpStep_flush hn hd (.inr (s.two_le_outFree_iff.2 hroom)))]
    obtain ⟨-, hs⟩ | ⟨hhave', -⟩ := s.cmpFlush_cases
    · rw [hs, State.complete_of_decClear (s := s.outPush _) hclear]
      rfl
    · simp [hhave] at hhave'
  case truncated =>
    rw [step_of_cmpStep hev hp (State.cmpStep_truncated (h.inCount_lt hp hn) hf he)]
    exact congrArg Host.Outcome.next (State.clearRun_of_decClear hclear)
  case holdIn =>
    exact step_of_cmpHold hev hp (.inl (State.cmpStep_eq_holdIn_iff.2 ⟨h.inCount_lt hp hn, hf, he⟩))
  case holdOut =>
    obtain ⟨-, hle, -⟩ := h.cmp hp
    have hfree : s.outFree < 2 := by
      rw [← Nat.not_le, s.two_le_outFree_iff]
      omega
    refine step_of_cmpHold hev hp (.inr ((State.cmpStep_eq_holdOut_iff hle).2 ⟨hfree, ?_⟩))
    by_cases hn : s.inCount = s.lLen
    · by_cases hd : s.needPad = false ∨ s.cPadDone = true
      · exact .inr (.inr ⟨hn, hd, hflush hn hd⟩)
      · exact .inr (.inl ⟨hn, by simpa using hd⟩)
    · exact .inl ⟨h.inCount_lt hp hn, hinput.resolve_right hn⟩

end Sys2Proof.Machine
end

section
/-! What a running compression has still to emit, and what Accumulate takes off it (R171, R175, R180). -/

namespace Sys2Proof.Machine

variable {s t u : State} {b v : Byte} {n : Nat} {rest ys : List Byte} {rs : List (Byte × Nat)}

/-! ## Runs, byte by byte -/

theorem runsFrom_grow (v : Byte) (hn : n < 63) (ys : List Byte) : runsFrom v n (v :: ys) = runsFrom v (n + 1) ys := by
  simp [runsFrom, hn]

theorem runsFrom_cut (hb : b ≠ v) (n : Nat) (ys : List Byte) :
    runsFrom v n (b :: ys) = (v, n) :: runsOf (b :: ys) := by
  simp [runsFrom, runsOf, hb]

/-- A run of 63 is not extended (R172). -/
theorem runsFrom_full (v : Byte) (ys : List Byte) : runsFrom v 63 ys = (v, 63) :: runsOf ys := by
  cases ys <;> simp [runsFrom, runsOf]

theorem unitsOf_append (rs rs' : List (Byte × Nat)) : unitsOf (rs ++ rs') = unitsOf rs ++ unitsOf rs' :=
  List.flatMap_append

/-- The runs that a compression in `s` makes of the bytes `ys`: its pending run may go on into them. -/
def State.runsToCome (s : State) (ys : List Byte) : List (Byte × Nat) :=
  if s.cHave then runsFrom s.cVal s.cCnt.toNat ys else runsOf ys

theorem State.runsToCome_pending (hc : s.cHave = true) (ys : List Byte) :
    s.runsToCome ys = runsFrom s.cVal s.cCnt.toNat ys := if_pos hc

theorem State.runsToCome_noPending (hc : s.cHave = false) (ys : List Byte) : s.runsToCome ys = runsOf ys :=
  if_neg (by simp [hc])

theorem State.bytesToCome_eq (s : State) (more : List Byte) :
    s.bytesToCome more = unitsOf (s.runsToCome (s.inputToCome more)) := rfl

/-! ## Accumulate -/

/-- The first byte of a run. -/
theorem State.accumulate_first (hc : s.cHave = false) (b : Byte) :
    s.accumulate b = { s with cHave := true, cVal := b, cCnt := 1 } := by
  simp [State.accumulate, hc]

/-- The pending run grows. -/
theorem State.accumulate_grow (hc : s.cHave = true) (hb : b = s.cVal) (hn : s.cCnt.toNat + 1 < 63) :
    s.accumulate b = { s with cCnt := s.cCnt + 1 } := by
  have h63 : s.cCnt + 1#6 ≠ 63#6 := fun h => by
    have := congrArg BitVec.toNat h
    simp at this
    omega
  simp [State.accumulate, hc, hb, h63]

/-- The pending run reaches 63 and is emitted. -/
theorem State.accumulate_full (hc : s.cHave = true) (hb : b = s.cVal) (hn : s.cCnt.toNat + 1 = 63) :
    s.accumulate b =
      { s with cHave := false, cCnt := 63, outFifo := s.outFifo ++ [0xFF, b], outCount := s.outCount + 2 } := by
  have h63 : s.cCnt + 1#6 = 63#6 := BitVec.eq_of_toNat_eq (by simp; omega)
  simp [State.accumulate, State.emitUnit, State.outPush, unit, hc, hb, h63]

/-- The pending run is emitted, and the byte starts a new one. -/
theorem State.accumulate_cut (hc : s.cHave = true) (hb : b ≠ s.cVal) :
    s.accumulate b = { s.outPush (unit s.cVal s.cCnt.toNat) with cVal := b, cCnt := 1 } := by
  simp [State.accumulate, State.emitUnit, State.outPush, hc, hb]

/-- The pending run, if there is one, has length 1 to 62: one of 63 has been emitted (R175). -/
def State.PendingOk (s : State) : Prop := s.cHave = true → 1 ≤ s.cCnt.toNat ∧ s.cCnt.toNat ≤ 62

/-- `t` is `s` after a byte `b` has been accumulated, which has emitted the runs `rs`: the runs to come of `b` and what
follows it are `rs` and those to come of what follows. A byte that leaves no run pending has filled one to 63. -/
structure State.Accumulated (s : State) (b : Byte) (rs : List (Byte × Nat)) (t : State) : Prop where
  frame : t = { s.outPush (unitsOf rs) with cHave := t.cHave, cVal := t.cVal, cCnt := t.cCnt }
  runs : ∀ ys, s.runsToCome (b :: ys) = rs ++ t.runsToCome ys
  full : t.cHave = false → ∃ v, rs = [(v, 63)]

/-- Accumulate cuts off the runs R172 does, one byte after the other. -/
theorem State.PendingOk.accumulated (h : s.PendingOk) (b : Byte) : ∃ rs, s.Accumulated b rs (s.accumulate b) := by
  cases hc : s.cHave with
  | false =>
    rw [State.accumulate_first hc]
    exact ⟨[], by simp [unitsOf, State.outPush], fun ys => State.runsToCome_noPending hc _, nofun⟩
  | true =>
    obtain ⟨-, h62⟩ := h hc
    by_cases hb : b = s.cVal
    · have hgrow (ys : List Byte) : s.runsToCome (b :: ys) = runsFrom s.cVal (s.cCnt.toNat + 1) ys := by
        rw [State.runsToCome_pending hc, hb, runsFrom_grow _ (by omega)]
      by_cases hn : s.cCnt.toNat + 1 = 63
      · rw [State.accumulate_full hc hb hn]
        refine ⟨[(b, 63)], by simp [unitsOf, unit, State.outPush], fun ys => ?_, fun _ => ⟨b, rfl⟩⟩
        rw [hgrow, hn, runsFrom_full, hb]
        rfl
      · rw [State.accumulate_grow hc hb (by omega)]
        refine ⟨[], by simp [unitsOf, State.outPush], fun ys => ?_, fun he => nomatch hc.symm.trans he⟩
        have hcnt : (s.cCnt + 1).toNat = s.cCnt.toNat + 1 := by simp; omega
        rw [hgrow, ← hcnt]
        exact (State.runsToCome_pending (s := { s with cCnt := s.cCnt + 1 }) hc ys).symm
    · rw [State.accumulate_cut hc hb]
      refine ⟨[(s.cVal, s.cCnt.toNat)], by simp [unitsOf, State.outPush], fun ys => ?_,
        fun he => nomatch hc.symm.trans he⟩
      have hnew : State.runsToCome { s with cVal := b, cCnt := 1 } ys = runsOf (b :: ys) :=
        State.runsToCome_pending (s := { s with cVal := b, cCnt := 1 }) hc ys
      rw [State.runsToCome_pending hc, runsFrom_cut hb, ← hnew]
      rfl

theorem State.Inv.pendingOk (h : s.Inv) (hp : s.phase = .cmp) : s.PendingOk := by
  obtain ⟨-, -, hrun, -⟩ := h.cmp hp
  exact hrun

/-- How many bytes of input a running compression has still to take. -/
def State.inputLeft (s : State) : Nat := s.lLen.toNat - s.inCount.toNat

/-- Accumulate leaves the input as it is. -/
theorem State.Accumulated.input_eq (h : s.Accumulated b rs t) :
    t.inFifo = s.inFifo ∧ t.inCount = s.inCount ∧ t.lLen = s.lLen ∧ t.eos = s.eos ∧ t.inputLeft = s.inputLeft := by
  rw [h.frame]
  exact ⟨rfl, rfl, rfl, rfl, rfl⟩

theorem State.Accumulated.inputToCome_eq (h : s.Accumulated b rs t) (more : List Byte) :
    t.inputToCome more = s.inputToCome more := by
  rw [h.frame]
  rfl

theorem State.Accumulated.bytesToCome_eq (h : s.Accumulated b rs t) (more : List Byte) :
    unitsOf (s.runsToCome (b :: s.inputToCome more)) = unitsOf rs ++ t.bytesToCome more := by
  rw [h.runs, unitsOf_append, State.bytesToCome_eq, h.inputToCome_eq]

/-! ## The bytes taken -/

/-- A running compression in `s` has the byte `b` to take next, of its input or the pad byte, and is `u` when it is
taken (R174, R175). -/
inductive State.Takes (s : State) : Byte → State → Prop
  | input {b : Byte} {rest : List Byte} (hl : s.inCount < s.lLen) (hf : s.inFifo = b :: rest) :
      s.Takes b (s.inPopped rest)
  | pad (hn : s.inCount = s.lLen) (hneed : s.needPad = true) (hd : s.cPadDone = false) :
      s.Takes 0x00 { s with cPadDone := true }

/-- A byte taken changes nothing but the input. -/
theorem State.Takes.frame (h : s.Takes b u) :
    u = { s with inFifo := u.inFifo, inCount := u.inCount, cPadDone := u.cPadDone } := by
  cases h <;> rfl

theorem State.Takes.phase_eq (h : s.Takes b u) : u.phase = s.phase := by
  rw [h.frame]

theorem State.Takes.lLen_eq (h : s.Takes b u) : u.lLen = s.lLen := by
  rw [h.frame]

theorem State.Takes.runsToCome_eq (h : s.Takes b u) (ys : List Byte) : u.runsToCome ys = s.runsToCome ys := by
  rw [h.frame]
  rfl

/-- The byte taken is accumulated, where a unit has room. -/
theorem State.Takes.cmpStep (h : s.Takes b u) (ho : 2 ≤ s.outFree) : s.cmpStep = .took (u.accumulate b) := by
  cases h with
  | input hl hf => exact State.cmpStep_input hl hf ho
  | pad hn hneed hd => exact State.cmpStep_pad hn hneed hd ho

theorem State.Takes.inv (ht : s.Takes b u) (h : s.Inv) (hp : s.phase = .cmp) : u.Inv := by
  cases ht with
  | input hl hf => exact h.takeInput hp hl hf
  | pad hn hneed hd => exact h.takePad hp (by simp [hneed, hd]) (by simp [hn])

/-- IN_COUNT counts a byte of input that is taken. -/
theorem State.inCount_succ_toNat (hl : s.inCount < s.lLen) : (s.inCount + 1).toNat = s.inCount.toNat + 1 := by
  have hlt : s.inCount.toNat < s.lLen.toNat := hl
  simp
  omega

theorem State.inputLeft_inPopped (hl : s.inCount < s.lLen) (rest : List Byte) :
    s.inputLeft = (s.inPopped rest).inputLeft + 1 := by
  have hlt : s.inCount.toNat < s.lLen.toNat := hl
  rw [State.inputLeft, State.inputLeft, State.inPopped_inCount, State.inPopped_lLen, State.inCount_succ_toNat hl]
  omega

/-- The byte taken is the first of those to come. -/
theorem State.Takes.inputToCome_eq (h : s.Takes b u) (more : List Byte) :
    s.inputToCome more = b :: u.inputToCome more := by
  cases h with
  | pad hn hneed hd => simp [State.inputToCome, hn, hneed, hd]
  | @input b rest hl hf =>
    rw [State.inputToCome, hf, show s.lLen.toNat - s.inCount.toNat = _ from State.inputLeft_inPopped hl rest]
    rfl

/-- At the end of the input nothing is to come. -/
theorem State.inputToCome_end (hn : s.inCount = s.lLen) (hd : s.needPad = false ∨ s.cPadDone = true)
    (more : List Byte) : s.inputToCome more = [] := by
  rcases hd with hd | hd <;> simp [State.inputToCome, hn, hd]

/-! ## The engine's steps -/

/-- The flush emits the last of the bytes to come (R175). -/
theorem State.cmpFlush_eq_complete (hn : s.inCount = s.lLen) (hd : s.needPad = false ∨ s.cPadDone = true)
    (more : List Byte) : s.cmpFlush = (s.outPush (s.bytesToCome more)).complete := by
  rw [State.bytesToCome_eq, State.inputToCome_end hn hd]
  rcases s.cmpFlush_cases with ⟨hc, hs⟩ | ⟨hc, hs⟩
  · rw [hs, State.runsToCome_pending hc]
    simp [runsFrom, unitsOf]
  · rw [hs, State.runsToCome_noPending hc]
    simp [runsOf, unitsOf, State.outPush]

/-- A CMP step that is taken is the flush, the end of a truncated input, or a byte accumulated. -/
theorem State.cmpStep_took (hle : s.inCount.toNat ≤ s.lLen.toNat) (h : s.cmpStep = .took t) :
    (s.inCount = s.lLen ∧ (s.needPad = false ∨ s.cPadDone = true) ∧ t = s.cmpFlush)
      ∨ t = s.raiseError .streamTruncated
      ∨ ∃ b u, s.Takes b u ∧ t = u.accumulate b := by
  rcases s.cmpStep_cases with ⟨-, -, -, -, hs⟩ | ⟨hn, hd, -, hs⟩ | ⟨-, -, -, hs⟩ | ⟨-, -, -, hs⟩
    | ⟨b, rest, hl, hf, ⟨-, hs⟩ | ⟨-, hs⟩⟩ | ⟨hn, hl, ⟨-, hs⟩ | ⟨-, hs⟩⟩
  · cases hs.symm.trans h
  · cases hs.symm.trans h; exact .inl ⟨hn, hd, rfl⟩
  · cases hs.symm.trans h; exact .inr (.inl rfl)
  · cases hs.symm.trans h
  · cases hs.symm.trans h
  · cases hs.symm.trans h; exact .inr (.inr ⟨b, _, .input hl hf, rfl⟩)
  · cases hs.symm.trans h
  · cases hs.symm.trans h
    obtain ⟨hn, hneed, hd⟩ := State.pad_due hle hn hl
    exact .inr (.inr ⟨0x00, _, .pad hn hneed hd, rfl⟩)

/-- A byte taken and accumulated emits the first of the bytes to come. -/
theorem State.Takes.bytesToCome_eq (ht : s.Takes b u) (ha : u.Accumulated b rs t) (more : List Byte) :
    s.bytesToCome more = unitsOf rs ++ t.bytesToCome more := by
  rw [State.bytesToCome_eq, ht.inputToCome_eq, ← ht.runsToCome_eq, ha.bytesToCome_eq]

/-- Every step of a running compression that does not fail emits the next of the bytes to come (R180). -/
theorem State.Inv.cmpStep_emits (h : s.Inv) (hp : s.phase = .cmp) (hs : s.cmpStep = .took t) (herr : t.err = false)
    (more : List Byte) :
    ∃ e : List Byte, t.outFifo = s.outFifo ++ e ∧ t.outCount = s.outCount + BitVec.ofNat 32 e.length
      ∧ s.bytesToCome more = e ++ (if t.phase = .idle then [] else t.bytesToCome more)
      ∧ (t.inFifo = s.inFifo ∧ t.inCount = s.inCount
          ∨ ∃ b, s.inFifo = b :: t.inFifo ∧ t.inCount = s.inCount + 1) := by
  obtain ⟨-, hle, -⟩ := h.cmp hp
  rcases State.cmpStep_took hle hs with ⟨hn, hd, rfl⟩ | rfl | ⟨b, u, ht, rfl⟩
  case inl =>
    rw [State.cmpFlush_eq_complete hn hd more]
    exact ⟨_, rfl, rfl, (List.append_nil _).symm, .inl ⟨rfl, rfl⟩⟩
  case inr.inl => cases herr
  case inr.inr =>
    have hpu : u.phase = .cmp := ht.phase_eq.trans hp
    obtain ⟨rs, ha⟩ := ((ht.inv h hp).pendingOk hpu).accumulated b
    have hpt : (u.accumulate b).phase = .cmp := (congrArg State.phase ha.frame).trans hpu
    refine ⟨unitsOf rs, ?_, ?_, ?_, ?_⟩
    · rw [ha.frame, ht.frame]; rfl
    · rw [ha.frame, ht.frame]; rfl
    · rw [hpt]
      exact ht.bytesToCome_eq ha more
    · rw [ha.frame]
      cases ht with
      | input hl hf => exact .inr ⟨_, hf, rfl⟩
      | pad => exact .inl ⟨rfl, rfl⟩

/-- Settles O56: a byte taken is accumulated, which takes the bytes it emits off those to come, and the flush emits the
rest. -/
theorem compStepsEmitTheReference : Obligations.CompStepsEmitTheReference := by
  intro s more h hev hp
  refine ⟨fun t hstep herr => ?emits, fun u b hroom hu => ?takes⟩
  case emits =>
    rw [step_of_no_events s hev] at hstep
    rcases State.engineTurn_next hstep with htook | ⟨rfl, -⟩
    · simp only [State.engineStep, hp] at htook
      exact h.cmpStep_emits hp htook herr more
    · exact ⟨[], by simp, by simp, by simp [hp], .inl ⟨rfl, rfl⟩⟩
  case takes =>
    have ht : s.Takes b u := by
      rcases hu with ⟨hl, rest, hf, rfl⟩ | ⟨hn, hneed, hd, rfl, rfl⟩
      · exact .input hl hf
      · exact .pad hn hneed hd
    obtain ⟨hhave, hval, hcnt, hout, hcount⟩ :
        s.cHave = u.cHave ∧ s.cVal = u.cVal ∧ s.cCnt = u.cCnt ∧ s.outFifo = u.outFifo
          ∧ s.outCount = u.outCount := by
      rw [ht.frame]
      exact ⟨rfl, rfl, rfl, rfl, rfl⟩
    rw [step_of_cmpStep hev hp (ht.cmpStep (s.two_le_outFree_iff.2 hroom)), hhave, hval, hcnt, hout, hcount]
    refine ⟨fun hc => ?_, fun hc hb hn => ?_, fun hc hb hn => ?_, fun hc hb => ?_⟩
    · rw [State.accumulate_first hc]
    · rw [State.accumulate_grow hc hb hn]
    · rw [State.accumulate_full hc hb hn]
    · rw [State.accumulate_cut hc hb]
      rfl

end Sys2Proof.Machine
end

section
/-! COMP and COMP.P run to their end, the engine alone: with all the input queued to completion (R171), with too little
of it to STREAM_TRUNCATED (R176). -/

namespace Sys2Proof.Machine

variable {s t u : State} {b : Byte} {rest ys : List Byte} {rs rs' : List (Byte × Nat)}

/-! ## The runs that are emitted -/

theorem runsFrom_ne_nil (v : Byte) (n : Nat) (ys : List Byte) : runsFrom v n ys ≠ [] := by
  obtain ⟨m, rs, hrs⟩ := runsFrom_eq_cons v n ys
  simp [hrs]

/-- With a run pending, or a byte to come, there is a run to come. -/
theorem State.runsToCome_ne_nil (h : s.cHave = true ∨ ys ≠ []) : s.runsToCome ys ≠ [] := by
  cases hc : s.cHave with
  | true =>
    rw [State.runsToCome_pending hc]
    exact runsFrom_ne_nil _ _ _
  | false =>
    rw [State.runsToCome_noPending hc]
    cases ys with
    | nil => simp [hc] at h
    | cons b ys => exact runsFrom_ne_nil b 1 ys

/-- Of runs followed by others none is the last. -/
theorem emittedRuns_append (rs : List (Byte × Nat)) (h : rs' ≠ []) :
    emittedRuns (rs ++ rs') = rs ++ emittedRuns rs' := by
  induction rs with
  | nil => rfl
  | cons r rs ih =>
    obtain ⟨r', rs'', hcons⟩ := List.exists_cons_of_ne_nil (List.append_ne_nil_of_right_ne_nil rs h)
    rw [List.cons_append, List.cons_append, ← ih, hcons]
    rfl

/-- A run of 63 is emitted even as the last (R176). -/
theorem emittedRuns_full_cons (v : Byte) (rs : List (Byte × Nat)) :
    emittedRuns ((v, 63) :: rs) = (v, 63) :: emittedRuns rs := by
  cases rs <;> rfl

/-- The runs that a byte accumulated emits are the first of those that a truncation leaves emitted (R176). -/
theorem State.Accumulated.emittedRuns_eq (h : s.Accumulated b rs t) (ys : List Byte) :
    emittedRuns (s.runsToCome (b :: ys)) = rs ++ emittedRuns (t.runsToCome ys) := by
  rw [h.runs]
  cases hc : t.cHave with
  | true => exact emittedRuns_append rs (State.runsToCome_ne_nil (.inl hc))
  | false =>
    obtain ⟨v, rfl⟩ := h.full hc
    exact emittedRuns_full_cons v _

/-- A pending run is not among them. -/
theorem State.PendingOk.emittedRuns_nil (h : s.PendingOk) : emittedRuns (s.runsToCome []) = [] := by
  cases hc : s.cHave with
  | true =>
    obtain ⟨-, h62⟩ := h hc
    have hne : s.cCnt.toNat ≠ 63 := by omega
    simp [State.runsToCome_pending hc, runsFrom, emittedRuns, hne]
  | false => simp [State.runsToCome_noPending hc, runsOf, emittedRuns]

/-! ## Output space -/

/-- The output FIFO has room for the units of the bytes `ys`, and for one byte more. -/
def State.RoomFor (s : State) (ys : List Byte) : Prop :=
  s.outFifo.length + (unitsOf (s.runsToCome ys)).length + 1 ≤ s.params.outDepth

theorem length_unitsOf_pos (h : rs ≠ []) : 1 ≤ (unitsOf rs).length := by
  obtain ⟨r, rs, rfl⟩ := List.exists_cons_of_ne_nil h
  have hunit : 1 ≤ (unit r.1 r.2).length := by
    unfold unit
    split_ifs <;> simp
  have hunits : unitsOf (r :: rs) = unit r.1 r.2 ++ unitsOf rs := List.flatMap_cons
  rw [hunits, List.length_append]
  omega

/-- The last unit to come has at least one byte, so two are free before it. -/
theorem State.RoomFor.two_le_outFree (h : s.RoomFor ys) (hne : s.runsToCome ys ≠ []) : 2 ≤ s.outFree := by
  have hpos := length_unitsOf_pos hne
  unfold State.RoomFor at h
  rw [State.two_le_outFree_iff]
  omega

/-- OUT_COUNT can count what fits the output FIFO (R6, R38). -/
theorem State.Inv.outDepth_lt (h : s.Inv) : s.params.outDepth < 2 ^ 32 := by
  have hparams := h.params
  simp only [State.ParamsOk, Params.valid, Bool.and_eq_true, decide_eq_true_eq] at hparams
  omega

/-! ## One byte -/

/-- A compression runs, under the invariant, with no event to come. -/
structure State.Compressing (s : State) : Prop where
  inv : s.Inv
  phase : s.phase = .cmp
  events : s.events = []

/-- With a byte to take and room for what is to come, the engine takes it, and the room stays enough. -/
theorem State.Compressing.take (h : s.Compressing) (ht : s.Takes b u) (hroom : s.RoomFor (b :: ys)) :
    ∃ rs t, step s = .next t ∧ u.Accumulated b rs t ∧ t.Compressing ∧ t.RoomFor ys := by
  have hpu : u.phase = .cmp := ht.phase_eq.trans h.phase
  have hinv := ht.inv h.inv h.phase
  have hfree : 2 ≤ s.outFree := hroom.two_le_outFree (State.runsToCome_ne_nil (.inr (List.cons_ne_nil _ _)))
  have hfree' : 2 ≤ u.outFree := by rw [ht.frame]; exact hfree
  obtain ⟨rs, ha⟩ := (hinv.pendingOk hpu).accumulated b
  refine ⟨rs, _, step_of_cmpStep h.events h.phase (ht.cmpStep hfree), ha, ⟨hinv.accumulate hpu hfree' b, ?_, ?_⟩, ?_⟩
  · rw [ha.frame]; exact hpu
  · rw [ha.frame, ht.frame]; exact h.events
  · have hout : (u.accumulate b).outFifo = s.outFifo ++ unitsOf rs := by rw [ha.frame, ht.frame]; rfl
    have hparams : (u.accumulate b).params = s.params := by rw [ha.frame, ht.frame]; rfl
    rw [State.RoomFor, ← ht.runsToCome_eq, ha.runs, unitsOf_append, List.length_append] at hroom
    rw [State.RoomFor, hout, hparams, List.length_append]
    omega

/-! ## Runs of the machine -/

/-- The machine comes from `s` to `t`. -/
def State.Reaches (s t : State) : Prop := ∃ n, Host.Core.run Sys2Proof.core n s = .next t

theorem State.Reaches.of_step (h : step s = .next t) : s.Reaches t := ⟨1, run_succ_of_step h 0⟩

theorem State.Reaches.after_step (h : step s = .next t) (hr : t.Reaches u) : s.Reaches u := by
  obtain ⟨n, hn⟩ := hr
  exact ⟨n + 1, (run_succ_of_step h n).trans hn⟩

/-- `s` with the bytes `us` emitted, and with the input FIFO and IN_COUNT as given. -/
def State.emitted (s : State) (us rest : List Byte) (count : BitVec 32) : State :=
  { s.outPush us with inFifo := rest, inCount := count }

@[simp] theorem State.emitted_slb (s : State) (us rest : List Byte) (count : BitVec 32) :
    (s.emitted us rest count).slb = s.slb := rfl

@[simp] theorem State.emitted_idxFifo (s : State) (us rest : List Byte) (count : BitVec 32) :
    (s.emitted us rest count).idxFifo = s.idxFifo := rfl

theorem State.emitted_nil (s : State) : s.emitted [] s.inFifo s.inCount = s := by
  simp [State.emitted, State.outPush]

/-- What a byte taken emits comes before what is emitted from then on; the run state apart, nothing else is left of
it. -/
theorem State.Takes.clearRun_emitted (ht : s.Takes b u) (ha : u.Accumulated b rs t) (us rest : List Byte)
    (count : BitVec 32) :
    (t.emitted us rest count).clearRun = (s.emitted (unitsOf rs ++ us) rest count).clearRun := by
  rw [ha.frame, ht.frame]
  simp [State.emitted, State.outPush, State.clearRun, BitVec.ofNat_add, BitVec.add_assoc]

/-- The end of a command clears the run state, whatever it was. -/
theorem State.complete_clearRun (s : State) : s.clearRun.complete = s.complete := rfl

theorem State.raiseError_clearRun (s : State) (code : ErrorCode) :
    s.clearRun.raiseError code = s.raiseError code := rfl

theorem State.Takes.complete_emitted (ht : s.Takes b u) (ha : u.Accumulated b rs t) (us rest : List Byte)
    (count : BitVec 32) :
    (t.emitted us rest count).complete = (s.emitted (unitsOf rs ++ us) rest count).complete := by
  rw [← State.complete_clearRun, ht.clearRun_emitted ha, State.complete_clearRun]

theorem State.Takes.raiseError_emitted (ht : s.Takes b u) (ha : u.Accumulated b rs t) (us rest : List Byte)
    (count : BitVec 32) (code : ErrorCode) :
    (t.emitted us rest count).raiseError code = (s.emitted (unitsOf rs ++ us) rest count).raiseError code := by
  rw [← State.raiseError_clearRun, ht.clearRun_emitted ha, State.raiseError_clearRun]

/-! ## To the end of the input -/

/-- A compression whose input is queued has a byte to take, or flushes. -/
theorem State.Compressing.takes_or_ends (h : s.Compressing)
    (hqueued : s.inputLeft ≤ s.inFifo.length) :
    (∃ b u, s.Takes b u) ∨ (s.inCount = s.lLen ∧ (s.needPad = false ∨ s.cPadDone = true)) := by
  obtain ⟨-, hle, -⟩ := h.inv.cmp h.phase
  by_cases hd : s.inCount = s.lLen ∧ (s.needPad = false ∨ s.cPadDone = true)
  · exact .inr hd
  by_cases hl : s.inCount < s.lLen
  · have hleft := State.inputLeft_inPopped hl []
    obtain ⟨b, rest, hf⟩ := List.exists_cons_of_length_pos (l := s.inFifo) (by omega)
    exact .inl ⟨b, _, .input hl hf⟩
  · obtain ⟨hn, hneed, hpad⟩ := State.pad_due hle hd hl
    exact .inl ⟨0x00, _, .pad hn hneed hpad⟩

/-- A byte taken leaves what is queued beyond the input as it is. -/
theorem State.Takes.drop_inputLeft (h : s.Takes b u) (hqueued : s.inputLeft ≤ s.inFifo.length) :
    u.inputLeft ≤ u.inFifo.length ∧ u.inFifo.drop u.inputLeft = s.inFifo.drop s.inputLeft := by
  cases h with
  | pad => exact ⟨hqueued, rfl⟩
  | @input b rest hl hf =>
    rw [State.inputLeft_inPopped hl rest, hf] at hqueued ⊢
    exact ⟨Nat.le_of_succ_le_succ hqueued, rfl⟩

/-- With its input queued and room for the bytes to come, a compression emits them all and completes (R171). -/
theorem State.Compressing.completes (h : s.Compressing)
    (hqueued : s.inputLeft ≤ s.inFifo.length) (hroom : s.RoomFor (s.inputToCome [])) :
    s.Reaches (s.emitted (s.bytesToCome []) (s.inFifo.drop s.inputLeft) s.lLen).complete := by
  induction hys : s.inputToCome [] generalizing s with
  | nil =>
    rcases h.takes_or_ends hqueued with ⟨b, u, ht⟩ | ⟨hn, hd⟩
    · cases hys.symm.trans (ht.inputToCome_eq [])
    have hflush : s.cHave = false ∨ 2 ≤ s.outFree := by
      cases hc : s.cHave with
      | false => exact .inl rfl
      | true => exact .inr (hroom.two_le_outFree (State.runsToCome_ne_nil (.inl hc)))
    have hstep := step_of_cmpStep h.events h.phase (State.cmpStep_flush hn hd hflush)
    rw [State.cmpFlush_eq_complete hn hd []] at hstep
    rw [State.emitted, State.inputLeft, ← hn, Nat.sub_self]
    exact .of_step hstep
  | cons b ys ih =>
    rcases h.takes_or_ends hqueued with ⟨b', u, ht⟩ | ⟨hn, hd⟩
    · obtain ⟨rfl, hu⟩ := List.cons_eq_cons.1 (hys.symm.trans (ht.inputToCome_eq []))
      obtain ⟨rs, t, hstep, ha, hcomp, hroom'⟩ := h.take ht (hys ▸ hroom)
      have hyt : t.inputToCome [] = ys := (ha.inputToCome_eq []).trans hu.symm
      obtain ⟨hfifo, -, hlen, -, hleft⟩ := ha.input_eq
      obtain ⟨hqueued', hdrop⟩ := ht.drop_inputLeft hqueued
      rw [← hfifo, ← hleft] at hqueued' hdrop
      have hreach := ih hcomp hqueued' (hyt ▸ hroom') hyt
      rw [hdrop, hlen, ht.lLen_eq, ht.complete_emitted ha] at hreach
      rw [ht.bytesToCome_eq ha]
      exact .after_step hstep hreach
    · cases hys.symm.trans (State.inputToCome_end hn hd [])

/-- With EOS set and less input queued than is to come, a compression takes all of it, emits all runs but the pending
one, and fails (R176). -/
theorem State.Compressing.truncates (h : s.Compressing) (heos : s.eos = true)
    (hshort : s.inCount.toNat + s.inFifo.length < s.lLen.toNat) (hroom : s.RoomFor s.inFifo) :
    s.Reaches ((s.emitted (unitsOf (emittedRuns (s.runsToCome s.inFifo))) []
      (BitVec.ofNat 32 (s.inCount.toNat + s.inFifo.length))).raiseError .streamTruncated) := by
  induction hys : s.inFifo generalizing s with
  | nil =>
    rw [(h.inv.pendingOk h.phase).emittedRuns_nil]
    have hl : s.inCount < s.lLen := BitVec.lt_def.2 (by omega)
    have hnone := s.emitted_nil
    rw [hys] at hnone
    rw [List.length_nil, Nat.add_zero, BitVec.ofNat_toNat, BitVec.setWidth_eq]
    exact .of_step (hnone.symm ▸ step_of_cmpStep h.events h.phase (State.cmpStep_truncated hl hys heos))
  | cons b ys ih =>
    have hl : s.inCount < s.lLen := BitVec.lt_def.2 (by omega)
    have ht : s.Takes b (s.inPopped ys) := .input hl hys
    obtain ⟨rs, t, hstep, ha, hcomp, hroom'⟩ := h.take ht (hys ▸ hroom)
    obtain ⟨hfifo, hcount, hlen, heos', -⟩ := ha.input_eq
    have htaken : t.inCount.toNat + ys.length = s.inCount.toNat + (b :: ys).length := by
      rw [hcount, State.inPopped_inCount, State.inCount_succ_toNat hl, List.length_cons]
      omega
    have hshort' : t.inCount.toNat + t.inFifo.length < t.lLen.toNat := by
      rw [hfifo, State.inPopped_inFifo, htaken, ← hys, hlen]
      exact hshort
    have hreach := ih hcomp (heos'.trans heos) hshort' (hfifo.symm ▸ hroom') hfifo
    rw [htaken, ht.raiseError_emitted ha] at hreach
    rw [← ht.runsToCome_eq, ha.emittedRuns_eq, unitsOf_append]
    exact .after_step hstep hreach

/-! ## From the issue -/

@[simp] theorem State.compIssued_slb (s : State) (pad : Bool) : (s.compIssued pad).slb = s.slb := rfl

@[simp] theorem State.compIssued_idxFifo (s : State) (pad : Bool) : (s.compIssued pad).idxFifo = s.idxFifo := rfl

theorem State.compressing_issued (h : s.Inv) (hp : s.phase = .idle) (hev : s.events = []) (pad : Bool) :
    (s.compIssued pad).Compressing := by
  obtain ⟨t, ht, heffect⟩ := exec_effect (if pad then .compP else .comp) s
  cases (exec_comp_eq hp pad).symm.trans ht
  exact ⟨heffect.inv h, rfl, hev⟩

theorem State.inputToCome_issued (s : State) (pad : Bool) :
    (s.compIssued pad).inputToCome [] = compInput s.inFifo s.len.toNat pad := by
  have hneed : (s.compIssued pad).needPad = (pad && decide (s.len.toNat % 2 = 1)) := rfl
  have hdue : (s.compIssued pad).needPad = true ∧ (s.compIssued pad).cPadDone = false ↔
      pad = true ∧ s.len.toNat % 2 = 1 := by
    simp [hneed, show (s.compIssued pad).cPadDone = false from rfl]
  rw [State.inputToCome, List.append_nil]
  exact congrArg₂ (· ++ ·) rfl (if_congr hdue rfl rfl)

/-- Settles O57: at the issue the bytes to come are those of the reference. -/
theorem compAgreesWithReference : Obligations.CompAgreesWithReference := by
  intro s pad h hp hev hqueued hroom
  have hbytes : (s.compIssued pad).bytesToCome [] = rleEncode (compInput s.inFifo s.len.toNat pad) := by
    rw [← s.inputToCome_issued pad]
    rfl
  have hroom' : (s.compIssued pad).RoomFor ((s.compIssued pad).inputToCome []) := by
    rw [State.RoomFor, ← State.bytesToCome_eq, hbytes]
    show s.outFifo.length + _ + 1 ≤ s.params.outDepth
    omega
  obtain ⟨n, hrun⟩ := (State.compressing_issued h hp hev pad).completes hqueued hroom'
  have hdepth := h.outDepth_lt
  rw [hbytes] at hrun
  refine ⟨_, _, n, exec_comp_eq hp pad, hrun, rfl, rfl, rfl, rfl, ?_, rfl, rfl, by simp, by simp⟩
  show (0 + BitVec.ofNat 32 (rleEncode (compInput s.inFifo s.len.toNat pad)).length).toNat = _
  rw [zero_add, BitVec.toNat_ofNat, Nat.mod_eq_of_lt (by omega)]

/-- Settles O58: at the issue no run is pending. -/
theorem truncatedCompDiscardsPendingRun : Obligations.TruncatedCompDiscardsPendingRun := by
  intro s pad h hp hev heos hshort hroom
  have hroom' : (s.compIssued pad).RoomFor (s.compIssued pad).inFifo := by
    show s.outFifo.length + (rleEncode s.inFifo).length + 1 ≤ s.params.outDepth
    omega
  have hshort' :
      (s.compIssued pad).inCount.toNat + (s.compIssued pad).inFifo.length < (s.compIssued pad).lLen.toNat := by
    show 0 + s.inFifo.length < s.len.toNat
    omega
  obtain ⟨n, hrun⟩ := (State.compressing_issued h hp hev pad).truncates heos hshort' hroom'
  refine ⟨_, _, n, exec_comp_eq hp pad, hrun, rfl, rfl, rfl, rfl, rfl, ?_, rfl⟩
  have hlen := s.len.isLt
  show (BitVec.ofNat 32 (0 + s.inFifo.length)).toNat = s.inFifo.length
  rw [Nat.zero_add, BitVec.toNat_ofNat, Nat.mod_eq_of_lt (by omega)]

end Sys2Proof.Machine
end

section
/-! The geometry of UNPACK and DROW: its four checks by numbers (R256), and the SLB bytes a row is read from (R205,
R207). -/

namespace Sys2Proof.Machine

variable {s : State} {planes bps : BitVec 4}

/-! ## The modes -/

/-- The pair of each mode (R94). -/
theorem unpackMode_cases (planes bps : BitVec 4) :
    (unpackMode planes bps = .byte ∧ planes.toNat = 1 ∧ bps.toNat = 8)
      ∨ (unpackMode planes bps = .sub ∧ planes.toNat = 1 ∧ bps.toNat ∈ [1, 2, 4])
      ∨ (unpackMode planes bps = .planar ∧ planes.toNat ∈ [2, 3, 4] ∧ bps.toNat = 1)
      ∨ unpackMode planes bps = .none := by
  rw [unpackMode_eq_toNat]
  split_ifs with hbyte hsub hplanar
  · exact .inl ⟨rfl, Prod.mk.inj hbyte⟩
  · exact .inr (.inl ⟨rfl, by simpa [← and_or_left] using hsub⟩)
  · exact .inr (.inr (.inl ⟨rfl, by simpa [← or_and_right] using hplanar⟩))
  · exact .inr (.inr (.inr rfl))

/-- The pairs that have a mode (R94, R201). -/
theorem unpackMode_eq_none_iff (planes bps : BitVec 4) :
    unpackMode planes bps = .none ↔
      (planes.toNat, bps.toNat) ∉ [(1, 8), (1, 1), (1, 2), (1, 4), (2, 1), (3, 1), (4, 1)] := by
  rw [unpackMode_eq_toNat]
  generalize (planes.toNat, bps.toNat) = pair
  have hrows : pair ∈ [(1, 8), (1, 1), (1, 2), (1, 4), (2, 1), (3, 1), (4, 1)] ↔
      pair = (1, 8) ∨ pair ∈ [(1, 1), (1, 2), (1, 4)] ∨ pair ∈ [(2, 1), (3, 1), (4, 1)] := by
    simp [or_assoc]
  rw [hrows]
  split_ifs with hbyte hsub hplanar
  · simp [hbyte]
  · simp only [hsub, true_or, or_true, not_true]
  · simp only [hplanar, or_true, not_true]
  · simp only [hbyte, hsub, hplanar, or_self, not_false_iff]

/-! ## The checks -/

/-- The four checks of a start are those of R203, R204, R201 and R202 on the latched operands. -/
theorem State.geometryError_eq (s : State) :
    s.geometryError = geometryCode s.lBps.toNat s.lPlanes.toNat s.lBpl.toNat s.lWidth.toNat s.params.slbBytes := by
  rw [State.geometryError, geometryCode]
  refine if_congr Iff.rfl rfl (if_congr Iff.rfl rfl (if_congr ?_ rfl rfl))
  exact unpackMode_eq_none_iff s.lPlanes s.lBps

/-- A geometry that passes has a mode, and a scanline that its row fits (R201, R204). -/
theorem State.row_fits_of_geometryError (h : s.geometryError = none) :
    s.mode ≠ .none ∧ s.lWidth.toNat * s.lBps.toNat * s.lPlanes.toNat ≤ 8 * (s.lBpl.toNat * s.lPlanes.toNat) := by
  unfold State.geometryError at h
  split_ifs at h with hdepth hdim hmode
  unfold ceilDiv at hdim
  exact ⟨hmode, by omega⟩

/-! ## The reads of a column -/

/-- Where the row fits the scanline, every byte that a column is read from is one of the scanline (R205). -/
theorem indexAddrs_lt_scanline {bpl width x a : Nat}
    (hfit : width * bps.toNat * planes.toNat ≤ 8 * (bpl * planes.toNat)) (hx : x < width)
    (ha : a ∈ indexAddrs (unpackMode planes bps) bps.toNat planes.toNat bpl x) : a < bpl * planes.toNat := by
  rcases unpackMode_cases planes bps with ⟨hm, hp, hb⟩ | ⟨hm, hp, hb⟩ | ⟨hm, hp, hb⟩ | hm
  · rw [hm, indexAddrs, List.mem_singleton] at ha
    rw [hp, hb] at hfit
    rw [hp]
    omega
  · rw [hm, indexAddrs, List.mem_singleton] at ha
    simp only [List.mem_cons, List.not_mem_nil, or_false] at hb
    rw [hp] at hfit ⊢
    rcases hb with hb | hb | hb
    all_goals
      rw [hb] at hfit ha
      omega
  · rw [hm, indexAddrs, List.mem_map] at ha
    obtain ⟨i, hi, rfl⟩ := ha
    have hpos : 0 < planes.toNat := (Nat.zero_le i).trans_lt (List.mem_range.1 hi)
    have hwidth : width ≤ 8 * bpl := by
      rw [hb, Nat.mul_one, ← Nat.mul_assoc] at hfit
      exact Nat.le_of_mul_le_mul_right hfit hpos
    calc i * bpl + x / 8 < i * bpl + bpl := by omega
      _ = (i + 1) * bpl := (Nat.succ_mul i bpl).symm
      _ ≤ planes.toNat * bpl := Nat.mul_le_mul_right bpl (List.mem_range.1 hi)
      _ = bpl * planes.toNat := Nat.mul_comm _ _
  · rw [hm] at ha
    cases ha

/-- Settles O41: the row fits the scanline (R204), and the scanline the SLB (R202). -/
theorem rowReadsStayInScanline : Obligations.RowReadsStayInScanline := by
  intro s x a h hx ha
  obtain ⟨-, hfit⟩ := State.row_fits_of_geometryError h
  have hlt := indexAddrs_lt_scanline hfit hx ha
  exact ⟨hlt, hlt.trans_le (State.scanline_le_of_geometryError h)⟩

end Sys2Proof.Machine
end

section
/-! UNPACK's issue, and UnpStep case by case: what the engine's step is under each condition of R210. -/

namespace Sys2Proof.Machine

variable {s : State}

/-! ## The issue -/

/-- A start whose operands are latched ends as its check says (R231 to R234); the run state that an error clears is
clear already. -/
theorem State.start_eq_startEnds (s : State) (op : Op) (d : Word) :
    s.start op d = (s.latched op d).startEnds op.firstPhase ((s.latched op d).issueError op) := by
  rcases s.start_cases op d with ⟨code, hc, hs⟩ | ⟨hc, hs⟩
  · rw [hs, hc]
    cases op <;> rfl
  · rw [hs, hc]
    rfl

/-- Settles O33: the four checks are on GEOM and WIDTH just latched. -/
theorem unpackIssue : Obligations.UnpackIssue := by
  intro s hp
  refine congrArg Host.Outcome.next ((State.writeCmd_eq_start hp rfl rfl).trans ?_)
  rw [State.start_eq_startEnds]
  exact congrArg (State.startEnds _ .unp) (s.latched .unpack 3).geometryError_eq

/-! ## UnpStep -/

/-- At the end of the row the command completes (R210). -/
theorem State.unpStep_complete (hw : s.idxCount.toNat = s.lWidth.toNat) : s.unpStep = .took s.complete := by
  rw [State.unpStep, if_pos hw]

/-- Under the invariant a column left is pushed where the index FIFO has room: the command's checks
rule out the faults of the step (R201, R207, R210). -/
theorem State.Inv.unpStep_push (h : s.Inv) (hp : s.phase = .unp) (hw : s.idxCount.toNat ≠ s.lWidth.toNat)
    (hi : s.idxFree ≠ 0) : s.unpStep = .took (s.idxPush (s.index s.idxCount.toNat)) := by
  obtain ⟨-, hgeo, hle⟩ := h.unp hp
  rcases s.unpStep_cases with ⟨hend, -⟩ | ⟨-, hfull, -⟩ | ⟨-, -, hmode, -⟩ | ⟨-, -, -, -, hs⟩
    | ⟨-, -, -, ⟨a, ha, hout⟩, -⟩
  · exact absurd hend hw
  · exact absurd hfull hi
  · obtain ⟨hsome, -⟩ := State.row_fits_of_geometryError hgeo
    exact absurd hmode hsome
  · exact hs
  · obtain ⟨-, hin⟩ := rowReadsStayInScanline s _ a hgeo (lt_of_le_of_ne hle hw) ha
    exact absurd hin (Nat.not_lt.2 hout)

/-- The index FIFO is full exactly at its capacity. -/
theorem State.Inv.idxFree_eq_zero_iff (h : s.Inv) : s.idxFree = 0 ↔ s.idxFifo.length = s.params.idxDepth := by
  obtain ⟨-, -, hfit⟩ := h.fifos
  unfold State.idxFree
  omega

/-! ## The single steps -/

/-- An UNP step with no event to come. -/
theorem step_of_unpStep {t : State} (hev : s.events = []) (hp : s.phase = .unp) (ht : s.unpStep = .took t) :
    step s = .next t := by
  rw [step_of_no_events s hev]
  simp [State.engineTurn, State.engineStep, hp, ht]

/-- On a full index FIFO UNP holds, and a hold changes nothing (R210, R290). -/
theorem step_of_unpHold (hev : s.events = []) (hp : s.phase = .unp) (hs : s.unpStep = .holdOut) : step s = .next s := by
  rw [step_of_no_events s hev]
  simp [State.engineTurn, State.engineStep, hp, hs]

/-- Where the run state is clear already, a command completes without changing it (R236). -/
theorem State.complete_of_runClear (h : s.RunClear) : s.complete = { s with phase := .idle, done := true } := by
  obtain ⟨hwait, hcnt, hhave, hval, hccnt, hpad⟩ := h
  simp only [State.complete, State.clearRun, hwait, hcnt, hhave, hval, hccnt, hpad]

/-- During an index extraction no run state is kept (R48, R49). -/
theorem State.Inv.runClear_of_unp (h : s.Inv) (hp : s.phase = .unp) : s.RunClear := by
  obtain ⟨hdec, hcmp⟩ := h.runState
  obtain ⟨hwait, hcnt⟩ := hdec (by simp [hp])
  exact ⟨hwait, hcnt, hcmp (by simp [hp])⟩

/-- Settles O39: in each case the step is the one of R210, and there is no run state to clear at the end. -/
theorem unpPushesOneIndex : Obligations.UnpPushesOneIndex := by
  intro s h hev hp
  refine ⟨fun hw => ?complete, fun hw hfull => ?hold, fun hw hroom => ?push⟩
  case complete =>
    rw [step_of_unpStep hev hp (State.unpStep_complete hw), State.complete_of_runClear (h.runClear_of_unp hp)]
  case hold =>
    exact step_of_unpHold hev hp (State.unpStep_eq_holdOut_iff.2 ⟨hw, h.idxFree_eq_zero_iff.2 hfull⟩)
  case push =>
    rw [step_of_unpStep hev hp (h.unpStep_push hp hw (mt h.idxFree_eq_zero_iff.1 hroom)), BitVec.ofNat_add,
      BitVec.ofNat_toNat, BitVec.setWidth_eq]
    rfl

end Sys2Proof.Machine
end

section
/-! An index extraction runs to its end, the engine alone: each step pushes the next column's index, until the row is
complete (R211). -/

namespace Sys2Proof.Machine

variable {s : State}

/-! ## Indices pushed -/

/-- `s` with the indices of its next `n` columns pushed. -/
def State.columnsPushed (s : State) (n : Nat) : State :=
  { s with
    idxFifo := s.idxFifo ++ (List.range' s.idxCount.toNat n).map s.index
    idxCount := s.idxCount + BitVec.ofNat 32 n }

theorem State.columnsPushed_zero (s : State) : s.columnsPushed 0 = s := by
  simp [State.columnsPushed]

/-- The next column's index comes before those of the columns after it. -/
theorem State.columnsPushed_idxPush (n : Nat) (hc : (s.idxCount + 1).toNat = s.idxCount.toNat + 1) :
    (s.idxPush (s.index s.idxCount.toNat)).columnsPushed n = s.columnsPushed (n + 1) := by
  have hindex : (s.idxPush (s.index s.idxCount.toNat)).index = s.index := rfl
  rw [State.columnsPushed, State.columnsPushed, hindex, State.idxPush_idxCount, hc, State.idxPush_idxFifo,
    List.range'_succ, List.map_cons, List.append_assoc, Nat.add_comm n 1, BitVec.ofNat_add, ← BitVec.add_assoc]
  rfl

/-! ## To the end of the row -/

/-- An index extraction with `n` columns left and room for their indices pushes them all and completes (R210, R211). -/
theorem State.Inv.unp_completes {n : Nat} (h : s.Inv) (hp : s.phase = .unp) (hev : s.events = [])
    (hleft : s.idxCount.toNat + n = s.lWidth.toNat) (hroom : s.idxFifo.length + n ≤ s.params.idxDepth) :
    s.Reaches (s.columnsPushed n).complete := by
  induction n generalizing s with
  | zero =>
    rw [s.columnsPushed_zero]
    exact .of_step (step_of_unpStep hev hp (State.unpStep_complete hleft))
  | succ n ih =>
    have hw : s.idxCount.toNat ≠ s.lWidth.toNat := by omega
    have hi : s.idxFree ≠ 0 := by rw [Ne, h.idxFree_eq_zero_iff]; omega
    have hc : (s.idxCount + 1).toNat = s.idxCount.toNat + 1 := by
      have hwidth := s.lWidth.isLt
      exact BitVec.toNat_add_of_lt (by simp; omega)
    have hstep := step_of_unpStep hev hp (h.unpStep_push hp hw hi)
    have hreach := ih (h.idxPush hp hw hi (s.index s.idxCount.toNat)) hp hev
      (by rw [State.idxPush_idxCount, State.idxPush_lWidth, hc]; omega)
      (by rw [State.idxPush_idxFifo, State.idxPush_params, List.length_append, List.length_singleton]; omega)
    rw [State.columnsPushed_idxPush n hc] at hreach
    exact .after_step hstep hreach

/-! ## From the issue -/

/-- The state that the issue of an UNPACK leaves where its checks pass (R200). -/
def State.unpackIssued (s : State) : State :=
  { s.started .unpack with lBps := s.bps, lPlanes := s.planes, lBpl := s.bpl, lWidth := s.width, phase := .unp }

theorem exec_unpack_eq (hp : s.phase = .idle)
    (hgeo : geometryCode s.bps.toNat s.planes.toNat s.bpl.toNat s.width.toNat s.params.slbBytes = none) :
    exec .unpack s = .next s.unpackIssued := by
  rw [unpackIssue s hp, hgeo]
  rfl

/-- Settles O59: at the issue all the columns of the row are left. -/
theorem unpackAgreesWithReference : Obligations.UnpackAgreesWithReference := by
  intro s h hp hev hgeo hroom
  have hissue := exec_unpack_eq hp hgeo
  have hinv : s.unpackIssued.Inv := by
    obtain ⟨t, ht, heffect⟩ := exec_effect .unpack s
    cases hissue.symm.trans ht
    exact heffect.inv h
  obtain ⟨n, hrun⟩ := hinv.unp_completes rfl hev (Nat.zero_add s.width.toNat) hroom
  refine ⟨_, _, n, hissue, hrun, rfl, rfl, rfl, ?_, ?_, rfl, rfl, rfl⟩
  · rw [indexRow, List.range_eq_range']
    rfl
  · have hwidth := s.width.isLt
    show (0 + BitVec.ofNat 32 s.width.toNat).toNat = s.width.toNat
    rw [zero_add, BitVec.toNat_ofNat, Nat.mod_eq_of_lt (by omega)]

end Sys2Proof.Machine
end

section
/-! NOP, and the issue of DROW (R240, R242). -/

namespace Sys2Proof.Machine

variable {s : State}

/-- Settles O28: the word of NOP is legal and starts no command. -/
theorem nopHasNoEffect : Obligations.NopHasNoEffect := by
  intro s
  refine ⟨fun hp => ?idle, fun hp => ?busy⟩
  case idle =>
    have hnop : s.writeCmd 0x00000000 = s := by
      rcases s.writeCmd_cases 0x00000000 with ⟨hbusy, -⟩ | ⟨-, hill, -⟩ | ⟨-, -, -, hs⟩ | ⟨op, -, -, hstart, -⟩
      · exact absurd hp hbusy
      · cases hill
      · exact hs
      · cases hstart
    exact congrArg Host.Outcome.next hnop
  case busy => exact congrArg Host.Outcome.next (State.writeCmd_busy hp 0x00000000)

/-- The product that DROW latches as L_N is the exact one (R95). -/
theorem scanline_eq_ofNat (bpl : BitVec 16) (planes : BitVec 4) :
    bpl.setWidth 32 * planes.setWidth 32 = BitVec.ofNat 32 (bpl.toNat * planes.toNat) := by
  rw [← toNat_scanline, BitVec.ofNat_toNat, BitVec.setWidth_eq]

/-- Settles O34: the four checks are those of UNPACK, on GEOM and WIDTH just latched. -/
theorem drowIssue : Obligations.DrowIssue := by
  intro s hp
  refine congrArg Host.Outcome.next ((State.writeCmd_eq_start hp rfl rfl).trans ?_)
  rw [State.start_eq_startEnds, ← scanline_eq_ofNat]
  exact congrArg (State.startEnds _ .dec) (s.latched .drow 4).geometryError_eq

end Sys2Proof.Machine
end

section
/-! How a running command ends (R237): an engine step completes it or fails it, and of the host's accesses only a reset
ends it. -/

namespace Sys2Proof.Machine

variable {s t : State} {i : Instr}

/-! ## The phase of a running command -/

theorem State.accumulate_phase (s : State) (b : Byte) : (s.accumulate b).phase = s.phase := by
  rcases s.accumulate_cases b with ⟨-, -, -, hs⟩ | ⟨-, -, -, hs⟩ | ⟨-, -, hs⟩ | ⟨-, hs⟩
  all_goals simp [hs]

theorem State.pushIn_phase (s : State) (b : Byte) : (s.pushIn b).phase = s.phase := by
  rcases s.pushIn_cases b with ⟨-, hs⟩ | ⟨-, -, hs⟩
  all_goals simp [hs]

theorem State.writeInCtrl_phase (s : State) (d : Word) : ((s.flushIn d).setEos d).phase = s.phase := by
  rw [State.setEos_eq]
  rcases s.flushIn_cases d with ⟨-, hs⟩ | ⟨-, -, hs⟩ | ⟨-, -, hs⟩
  all_goals simp [hs]

theorem State.popOut_phase (s : State) : s.popOut.phase = s.phase := by
  cases hf : s.outFifo with
  | nil => rw [State.popOut_nil hf, State.ret_phase]
  | cons b rest => rw [State.popOut_cons hf]

theorem State.popIdx_phase (s : State) : s.popIdx.phase = s.phase := by
  cases hf : s.idxFifo with
  | nil => rw [State.popIdx_nil hf, State.ret_phase]
  | cons b rest => rw [State.popIdx_cons hf]

theorem State.slbWindowRead_phase (s : State) : s.slbWindowRead.phase = s.phase := by
  rcases s.slbWindowRead_cases with ⟨-, hs⟩ | ⟨-, -, hs⟩ | ⟨-, -, hs⟩
  all_goals simp [hs]

theorem State.slbWindowWrite_phase (s : State) (b : Byte) : (s.slbWindowWrite b).phase = s.phase := by
  rcases s.slbWindowWrite_cases b with ⟨-, hs⟩ | ⟨-, -, hs⟩ | ⟨-, -, hs⟩
  all_goals simp [hs]

/-- While a command runs a host access leaves its phase, unless it is a write to CTRL with SRST (R112, R230). -/
theorem HostEffect.phase_or_reset (he : HostEffect s i t) (hp : s.phase ≠ .idle) :
    t.phase = s.phase ∨ ∃ d : Word, d.getLsbD 0 = true ∧ i = .wrCtrl d ∧ t = s.resetBlock := by
  cases he with
  | quiet | returns | operands | status => exact .inl rfl
  | ctrl d =>
    rcases s.writeCtrl_cases d with ⟨hd, hs⟩ | ⟨-, hs⟩
    · exact .inr ⟨d, hd, rfl, hs⟩
    · rw [hs]; exact .inl rfl
  | command _ d => rw [State.writeCmd_busy hp]; exact .inl rfl
  | push d => exact .inl (s.pushIn_phase _)
  | inCtrl d => exact .inl (s.writeInCtrl_phase d)
  | popOut => exact .inl s.popOut_phase
  | popIdx => exact .inl s.popIdx_phase
  | windowRead => exact .inl s.slbWindowRead_phase
  | windowWrite d => exact .inl (s.slbWindowWrite_phase _)

/-! ## The ends -/

/-- The command that ran in `s` has ended in `t` by completion, or with an error (R236, R255). -/
def State.CompletedOrFailed (t : State) : Prop :=
  (t.done = true ∧ t.err = false) ∨ (t.done = false ∧ t.err = true ∧ t.errcode ≠ .none)

/-- An engine step that ends a command has completed it or failed it. -/
theorem EngineEffect.completedOrFailed (he : EngineEffect s t) (h : s.Inv) (ht : t.phase = .idle) :
    t.CompletedOrFailed := by
  obtain ⟨hdone, herr, -⟩ := h.flags_busy he.busy
  cases he with
  | decEnd | unpEnd => exact .inl ⟨rfl, herr⟩
  | flush =>
    rcases s.cmpFlush_cases with ⟨-, hs⟩ | ⟨-, hs⟩
    all_goals rw [hs]; exact .inl ⟨rfl, herr⟩
  | truncated | overrun => exact .inr ⟨hdone, rfl, nofun⟩
  | enterUnp => cases ht
  | runCount _ _ hp | literal _ _ hp | run _ _ hp | index _ hp => cases hp.symm.trans ht
  | input b rest hp => cases hp.symm.trans ((State.accumulate_phase (s.inPopped rest) b).symm.trans ht)
  | pad hp => cases hp.symm.trans ((State.accumulate_phase { s with cPadDone := true } 0x00).symm.trans ht)

/-- So does a turn of the engine that ends a command. -/
theorem State.Inv.engineTurn_ends (h : s.Inv) (hp : s.phase ≠ .idle) (he : s.engineTurn = .next t)
    (ht : t.phase = .idle) : t.CompletedOrFailed := by
  rcases State.engineTurn_next he with he | ⟨rfl, -⟩
  · exact (State.engineStep_effect he).completedOrFailed h ht
  · exact absurd ht hp

/-- No reset is next where the engine goes on alone or has the next turn. -/
theorem State.not_nextResets (hev : s.events.head? = none ∨ s.events.head? = some .engine) : ¬s.nextResets := by
  rintro (⟨es, hes⟩ | ⟨d, -, a, es, hes, -⟩)
  all_goals simp [hes] at hev

/-- A step that ends a command is a turn of the engine, with no reset next, or a reset. -/
theorem step_ends_cases (h : s.Inv) (hstep : step s = .next t) (hp : s.phase ≠ .idle) (ht : t.phase = .idle) :
    (t.CompletedOrFailed ∧ ¬s.nextResets) ∨ ∃ es, t = (s.withEvents es).resetBlock ∧ s.nextResets := by
  rcases step_cases hstep with ⟨hev, he⟩ | ⟨es, hev, he⟩ | ⟨es, hev, rfl⟩ | ⟨a, es, i, hev, hd, hx⟩
  · exact .inl ⟨h.engineTurn_ends hp he ht, State.not_nextResets (by simp [hev])⟩
  · exact .inl ⟨(h.withEvents es).engineTurn_ends hp he ht, State.not_nextResets (by simp [hev])⟩
  · exact .inr ⟨es, rfl, .inl ⟨es, hev⟩⟩
  · obtain ⟨u, hu, heff⟩ := exec_effect i (s.withEvents es)
    cases hu.symm.trans hx
    rcases heff.phase_or_reset hp with hphase | ⟨d, hsrst, rfl, rfl⟩
    · exact absurd (hphase.symm.trans ht) hp
    · exact .inr ⟨es, rfl, .inr ⟨d, hsrst, a, es, hev, hd⟩⟩

/-- Settles O45: an engine step that ends the command sets one flag, and a reset clears both. -/
theorem threeWaysACommandEnds : Obligations.ThreeWaysACommandEnds := by
  intro s t h hstep hp ht
  rcases step_ends_cases h hstep hp ht with ⟨⟨hdone, herr⟩ | ⟨hdone, herr, hcode⟩, hnext⟩ | ⟨es, rfl, hnext⟩
  · exact .inl ⟨hdone, herr, hnext⟩
  · exact .inr (.inl ⟨hdone, herr, hcode, hnext⟩)
  · exact .inr (.inr ⟨rfl, rfl, hnext⟩)

end Sys2Proof.Machine
end

section
/-! A decompression runs to the end of its scanline, the engine alone, as DECOMP and as the first phase of DROW (R142,
R143, R242): unit by unit it leaves what `rle_decode` makes of the queued bytes. -/

namespace Sys2Proof.Machine

variable {s t u : State} {b v : Byte} {bs rest : List Byte} {k m n : Nat} {r : Decoded}

/-! ## Runs of the machine -/

/-- A run of more than no steps takes its first and goes on from there. -/
theorem run_succ_eq_next (h : Host.Core.run Sys2Proof.core (n + 1) s = .next t) :
    ∃ u, step s = .next u ∧ Host.Core.run Sys2Proof.core n u = .next t := by
  cases hstep : step s with
  | next u => exact ⟨u, rfl, (run_succ_of_step hstep n).symm.trans h⟩
  | fault f =>
    have hcore : Sys2Proof.core.step s = .fault f := hstep
    simp [Host.Core.run, hcore] at h
  | refused f =>
    have hcore : Sys2Proof.core.step s = .refused f := hstep
    simp [Host.Core.run, hcore] at h

theorem State.Reaches.trans (hst : s.Reaches t) (htu : t.Reaches u) : s.Reaches u := by
  obtain ⟨n, hn⟩ := hst
  induction n generalizing s with
  | zero => cases hn; exact htu
  | succ n ih =>
    obtain ⟨v, hstep, hv⟩ := run_succ_eq_next hn
    exact .after_step hstep (ih hv)

/-- The invariant holds along every run. -/
theorem State.Reaches.inv (hst : s.Reaches t) (h : s.Inv) : t.Inv := by
  obtain ⟨n, hn⟩ := hst
  induction n generalizing s with
  | zero => cases hn; exact h
  | succ n ih =>
    obtain ⟨v, hstep, hv⟩ := run_succ_eq_next hn
    exact ih (stepKeepsInvariant _ _ h hstep) hv

/-! ## Bytes stored in a row -/

/-- The memory with the bytes `bs` written from address `a` on. -/
def Memory.store (m : Memory) (a : Nat) : List Byte → Memory
  | [] => m
  | b :: bs => (m.write a b).store (a + 1) bs

/-- Copies of a byte and then other bytes are stored by a fill and a store behind it. -/
theorem Memory.store_replicate_append (mem : Memory) (a : Nat) (v : Byte) (m : Nat) (bs : List Byte) :
    mem.store a (List.replicate m v ++ bs) = (mem.fill a v m).store (a + m) bs := by
  induction m generalizing mem a with
  | zero => rfl
  | succ m ih =>
    rw [List.replicate_succ, List.cons_append, Memory.store, ih, Memory.fill, Nat.add_assoc, Nat.add_comm 1 m]

/-! ## What a decoding leaves -/

/-- `s` with the rest of its scanline decoded with the outcome `r`, and no unit begun. -/
def State.rowDecoded (s : State) (r : Decoded) : State :=
  { s with
    slb := s.slb.store s.slbCount.toNat r.out
    slbCount := s.lN
    inFifo := s.inFifo.drop r.taken
    inCount := s.inCount + BitVec.ofNat 32 r.taken
    dWait := false
    dCnt := 0 }

/-- What a DEC step leaves that takes the run-count byte `b`, leaving `rest` (R143). -/
def State.runBegun (s : State) (b : Byte) (rest : List Byte) : State :=
  { s.inPopped rest with dCnt := runCount b, dWait := true }

/-- A run-count byte is one byte taken, and decodes to nothing yet. -/
theorem State.rowDecoded_runBegun (hf : s.inFifo = b :: rest) (r : Decoded) :
    (s.runBegun b rest).rowDecoded r = s.rowDecoded (r.after [] 1) := by
  simp [State.rowDecoded, State.runBegun, State.inPopped, Decoded.after, hf, BitVec.ofNat_add, BitVec.add_assoc,
    Nat.add_comm 1, BitVec.add_comm 1#32]

/-- The copies that a DEC step writes come before what is decoded from then on. -/
theorem State.rowDecoded_decWrote (hle : s.slbCount.toNat ≤ s.lN.toNat) (hm : m ≤ s.room)
    (hf : s.inFifo = b :: rest) (v : Byte) (w : Bool) (r : Decoded) :
    (s.decWrote rest v m w).rowDecoded r = s.rowDecoded (r.after (List.replicate m v) 1) := by
  have hcount := State.decWrote_slbCount (rest := rest) (v := v) (w := w) hle hm
  rw [State.rowDecoded, hcount]
  simp [State.rowDecoded, State.decWrote, State.inPopped, Decoded.after, hf, Memory.store_replicate_append,
    BitVec.ofNat_add, BitVec.add_assoc, Nat.add_comm 1, BitVec.add_comm 1#32]

/-- What the engine leaves at the end of the scanline: DROW goes on to its UNP phase, DECOMP completes (R143). -/
def State.rowEnd (s : State) : State := if s.op = .drow then s.enterUnp else s.complete

/-- The end of the scanline clears d_wait and d_cnt, whatever they were. -/
theorem State.rowEnd_rowDecoded (hn : s.slbCount = s.lN) : (s.rowDecoded ⟨[], 0, .none⟩).rowEnd = s.rowEnd := by
  have hrow : s.rowDecoded ⟨[], 0, .none⟩ = { s with dWait := false, dCnt := 0 } := by
    simp [State.rowDecoded, Memory.store, hn]
  rw [hrow]
  rfl

/-! ## Unit by unit -/

/-- A decompression runs, under the invariant, with no event to come, and has taken whole units only. -/
structure State.BetweenUnits (s : State) : Prop where
  inv : s.Inv
  phase : s.phase = .dec
  events : s.events = []
  unit : s.dWait = false

/-- The machine comes from `s` to `t` by the next whole unit, of `k` bytes, which decodes to `bs`. -/
structure State.TakesUnit (s : State) (bs : List Byte) (k : Nat) (t : State) : Prop where
  reaches : s.Reaches t
  between : t.BetweenUnits
  inFifo : t.inFifo = s.inFifo.drop k
  room : t.room = s.room - bs.length
  row : ∀ r, t.rowDecoded r = s.rowDecoded (r.after bs k)

/-- The row that a unit begins ends as the one that is left after it. -/
theorem State.TakesUnit.reaches_rowEnd (ht : s.TakesUnit bs k t) (hr : t.Reaches (t.rowDecoded r).rowEnd) :
    s.Reaches (s.rowDecoded (r.after bs k)).rowEnd := by
  rw [← ht.row]
  exact ht.reaches.trans hr

/-- A DEC step that writes `m` copies of the byte it takes ends a unit. -/
theorem State.takesUnit_decWrote (h : s.Inv) (hp : s.phase = .dec) (hev : s.events = []) (hf : s.inFifo = v :: rest)
    (hm : m ≤ s.room) (hs : s.decStep = .took (s.decWrote rest v m false)) :
    s.TakesUnit (List.replicate m v) 1 (s.decWrote rest v m false) := by
  obtain ⟨-, hle, -⟩ := h.dec hp
  have hcount := State.decWrote_slbCount (rest := rest) (v := v) (w := false) hle hm
  exact {
    reaches := .of_step (step_of_decStep hev hp hs)
    between := ⟨h.decWrote hp hf hm v false, hp, hev, rfl⟩
    inFifo := by rw [hf]; rfl
    room := by
      rw [State.room, hcount, List.length_replicate, ← Nat.sub_sub]
      rfl
    row := State.rowDecoded_decWrote hle hm hf v false }

/-- A literal is a unit of one byte (R99). -/
theorem State.BetweenUnits.literal (h : s.BetweenUnits) (hn : s.slbCount ≠ s.lN) (hf : s.inFifo = b :: rest)
    (hb : isRunCount b = false) : ∃ t, s.TakesUnit [b] 1 t := by
  obtain ⟨-, hle, -⟩ := h.inv.dec h.phase
  have hone := State.one_le_room hle hn
  have hfit := (Nat.add_le_add_left hone _).trans (h.inv.room_fits h.phase)
  exact ⟨_, State.takesUnit_decWrote h.inv h.phase h.events hf hone (State.decStep_literal hn h.unit hf hb hfit)⟩

/-- A run that fits the room is a unit of two bytes, each a step (R99, R143). -/
theorem State.BetweenUnits.run (h : s.BetweenUnits) (hn : s.slbCount ≠ s.lN) (hf : s.inFifo = b :: v :: rest)
    (hb : isRunCount b = true) (hr : (runCount b).toNat ≤ s.room) :
    ∃ t, s.TakesUnit (List.replicate (runCount b).toNat v) 2 t := by
  have hinv : (s.runBegun b (v :: rest)).Inv := h.inv.takeRunCount h.phase hf (runCount b)
  have hcount := step_of_decStep h.events h.phase (State.decStep_runCount hn h.unit hf hb)
  have hvalue := State.takesUnit_decWrote hinv h.phase h.events rfl hr
    (State.decStep_run (s := s.runBegun b (v :: rest)) hn rfl rfl hr (hinv.room_fits h.phase))
  exact ⟨_, .after_step hcount hvalue.reaches, hvalue.between, by rw [hvalue.inFifo, hf]; rfl, hvalue.room,
    fun r => by rw [hvalue.row, State.rowDecoded_runBegun hf, Decoded.after_after]; rfl⟩

/-! ## To the end of the scanline -/

/-- The room of the scanline is 0 exactly at its end. -/
theorem State.BetweenUnits.room_eq_zero_iff (h : s.BetweenUnits) : s.room = 0 ↔ s.slbCount = s.lN := by
  obtain ⟨-, hle, -⟩ := h.inv.dec h.phase
  rw [← BitVec.toNat_inj, State.room]
  omega

/-- At the end of the scanline nothing is left to decode, whatever is queued (R148). -/
theorem State.BetweenUnits.reaches_rowEnd (h : s.BetweenUnits) (hroom : s.room = 0) (x : List Byte) :
    s.Reaches (s.rowDecoded (rleDecode x 0)).rowEnd := by
  have hn := h.room_eq_zero_iff.1 hroom
  have hs : s.decStep = .took s.rowEnd := by
    rw [State.decStep, if_pos hn, State.rowEnd]
    split <;> rfl
  rw [rleDecode_zero, State.rowEnd_rowDecoded hn]
  exact .of_step (step_of_decStep h.events h.phase hs)

/-- With queued bytes that decode to the rest of the scanline, a decompression decodes them as the reference does and
comes to the end of the scanline (R142). -/
theorem State.BetweenUnits.decodes {x : List Byte} (h : s.BetweenUnits) (hf : s.inFifo = x) (hroom : s.room = n)
    (hok : (rleDecode x n).status = .none) : s.Reaches (s.rowDecoded (rleDecode x n)).rowEnd := by
  induction x, n using rleDecode.induct generalizing s with
  | case1 n =>
    have hzero : n = 0 := by
      by_contra hn
      rw [rleDecode_nil hn] at hok
      cases hok
    subst hzero
    exact h.reaches_rowEnd hroom []
  | case2 b rest => exact h.reaches_rowEnd hroom (b :: rest)
  | case3 b n hn hb =>
    rw [rleDecode_countByte hn hb] at hok
    cases hok
  | case4 b n hn hb v rest hc =>
    rw [rleDecode_overrun hn hb hc] at hok
    cases hok
  | case5 b n hn hb v rest hc ih =>
    have hfit : (runCount b).toNat ≤ n := Nat.not_lt.1 hc
    obtain ⟨t, ht⟩ := h.run (h.room_eq_zero_iff.not.1 (hroom ▸ hn)) hf hb (hroom ▸ hfit)
    rw [rleDecode_run hn hb hfit] at hok ⊢
    refine ht.reaches_rowEnd (ih ht.between ?_ ?_ hok)
    · rw [ht.inFifo, hf]; rfl
    · rw [ht.room, hroom, List.length_replicate]
  | case6 b rest n hn hb ih =>
    have hb : isRunCount b = false := Bool.eq_false_iff.2 hb
    obtain ⟨t, ht⟩ := h.literal (h.room_eq_zero_iff.not.1 (hroom ▸ hn)) hf hb
    rw [rleDecode_literal hn hb] at hok ⊢
    refine ht.reaches_rowEnd (ih ht.between ?_ ?_ hok)
    · rw [ht.inFifo, hf]; rfl
    · rw [ht.room, hroom, List.length_singleton]

end Sys2Proof.Machine
end

section
/-! DROW against its parts (R244): a DECOMP of the scanline, then an UNPACK of its row. -/

namespace Sys2Proof.Machine

variable {s : State} {r : Decoded}

/-! ## The issues -/

/-- The state that the issue of a DROW leaves where its checks pass (R242). -/
def State.drowIssued (s : State) : State :=
  { s.started .drow with
    lBps := s.bps, lPlanes := s.planes, lBpl := s.bpl, lWidth := s.width
    lN := BitVec.ofNat 32 (s.bpl.toNat * s.planes.toNat), phase := .dec }

theorem exec_drow_eq (hp : s.phase = .idle)
    (hgeo : geometryCode s.bps.toNat s.planes.toNat s.bpl.toNat s.width.toNat s.params.slbBytes = none) :
    exec .drow s = .next s.drowIssued := by
  rw [drowIssue s hp, hgeo]
  rfl

theorem exec_decomp_eq (hp : s.phase = .idle) (hfit : s.len.toNat ≤ s.params.slbBytes) :
    exec .decomp s = .next s.decompIssued := by
  rw [decompIssue s hp, if_neg (Nat.not_lt.2 hfit)]
  rfl

/-- The invariant is kept by every operation of the host. -/
theorem State.Inv.of_exec (h : s.Inv) {i : Instr} {t : State} (ht : exec i s = .next t) : t.Inv := by
  obtain ⟨u, hu, heffect⟩ := exec_effect i s
  cases hu.symm.trans ht
  exact heffect.inv h

/-- A geometry that passes has its scanline in the SLB (R202). -/
theorem scanline_le_of_geometryCode (s : State)
    (hgeo : geometryCode s.bps.toNat s.planes.toNat s.bpl.toNat s.width.toNat s.params.slbBytes = none) :
    s.bpl.toNat * s.planes.toNat ≤ s.params.slbBytes :=
  State.scanline_le_of_geometryError (s := s.drowIssued) (s.drowIssued.geometryError_eq.trans hgeo)

/-! ## The commands run to their ends -/

/-- A DECOMP of queued bytes that decode completes with them decoded (R142). -/
theorem State.Inv.decomp_completes (h : s.Inv) (hp : s.phase = .idle) (hev : s.events = [])
    (hfit : s.len.toNat ≤ s.params.slbBytes) (hr : rleDecode s.inFifo s.len.toNat = r) (hok : r.status = .none) :
    s.decompIssued.Reaches (s.decompIssued.rowDecoded r).complete := by
  subst hr
  have hbetween : s.decompIssued.BetweenUnits := ⟨h.of_exec (exec_decomp_eq hp hfit), rfl, hev, rfl⟩
  exact hbetween.decodes rfl rfl hok

/-- A DROW whose geometry passes and whose scanline decodes goes on to its UNP phase, and pushes its row's indices where
they fit (R211, R242). -/
theorem State.Inv.drow_completes (h : s.Inv) (hp : s.phase = .idle) (hev : s.events = [])
    (hgeo : geometryCode s.bps.toNat s.planes.toNat s.bpl.toNat s.width.toNat s.params.slbBytes = none)
    (hfree : s.idxFifo.length + s.width.toNat ≤ s.params.idxDepth)
    (hr : rleDecode s.inFifo s.drowIssued.lN.toNat = r) (hok : r.status = .none) :
    s.drowIssued.Reaches ((s.drowIssued.rowDecoded r).enterUnp.columnsPushed s.width.toNat).complete := by
  subst hr
  have hinv := h.of_exec (exec_drow_eq hp hgeo)
  have hbetween : s.drowIssued.BetweenUnits := ⟨hinv, rfl, hev, rfl⟩
  have hdec : s.drowIssued.Reaches (s.drowIssued.rowDecoded _).enterUnp := hbetween.decodes rfl rfl hok
  exact hdec.trans ((hdec.inv hinv).unp_completes rfl hev (Nat.zero_add s.width.toNat) hfree)

/-- Settles O60: both decode the same row into the same SLB, and push the indices of that SLB. -/
theorem drowEqualsDecompThenUnpack : Obligations.DrowEqualsDecompThenUnpack := by
  intro s h hp hev hgeo hfree hlen hok
  have hfit : s.len.toNat ≤ s.params.slbBytes := hlen.trans_le (scanline_le_of_geometryCode s hgeo)
  have hN : s.drowIssued.lN = s.len := by
    show BitVec.ofNat 32 (s.bpl.toNat * s.planes.toNat) = s.len
    rw [← hlen, BitVec.ofNat_toNat, BitVec.setWidth_eq]
  obtain ⟨n₁, hdrow⟩ := h.drow_completes hp hev hgeo hfree (congrArg (rleDecode s.inFifo ·.toNat) hN) hok
  have hdecomp := h.decomp_completes hp hev hfit rfl hok
  have hinv := hdecomp.inv (h.of_exec (exec_decomp_eq hp hfit))
  obtain ⟨n₂, hrun₂⟩ := hdecomp
  obtain ⟨w₀, w, n₃, hunpack, hrun₃, hidle, hdone, -, hidx, -, hslb, hin, -⟩ :=
    unpackAgreesWithReference _ hinv rfl hev hgeo hfree
  refine ⟨_, _, _, _, w₀, w, n₁, n₂, n₃, exec_drow_eq hp hgeo, hdrow, rfl, rfl, hN, ?_, ?_,
    exec_decomp_eq hp hfit, hrun₂, rfl, rfl, hunpack, hrun₃, hidle, hdone, hslb.symm, hin.symm, ?_⟩
  · have hwidth := s.width.isLt
    show (0 + BitVec.ofNat 32 s.width.toNat).toNat = s.width.toNat
    rw [zero_add, BitVec.toNat_ofNat, Nat.mod_eq_of_lt (by omega)]
  · exact zero_add _
  · rw [hidx, indexRow, List.range_eq_range']
    rfl

end Sys2Proof.Machine
end

section
/-! No step faults (R250): the invariant rules out the two faults of an engine step, and nothing else raises one. -/

namespace Sys2Proof.Machine

variable {s : State}

theorem State.decWrite_not_stuck {v : Byte} {m : Nat} {after : State → State}
    (h : s.slbCount.toNat + m ≤ s.params.slbBytes) (f : Fault) : s.decWrite v m after ≠ .stuck f := by
  rw [State.decWrite_fits h]; nofun

/-- In DEC every write fits the room of the scanline, and that lies in the SLB (R141). -/
theorem State.Inv.decStep_not_stuck (h : s.Inv) (hp : s.phase = .dec) (f : Fault) : s.decStep ≠ .stuck f := by
  obtain ⟨-, hle, -⟩ := h.dec hp
  have hfit := h.room_fits hp
  rcases s.decStep_cases with ⟨-, -, hs⟩ | ⟨-, -, hs⟩ | ⟨-, -, -, hs⟩ | ⟨-, -, -, hs⟩
    | ⟨b, rest, hn, -, ⟨-, hs⟩ | ⟨-, -, hs⟩ | ⟨-, -, hs⟩⟩
  · rw [hs]; nofun
  · rw [hs]; nofun
  · rw [hs]; nofun
  · rw [hs]; nofun
  · have hcopies : s.slbCount.toNat + min s.dCnt.toNat s.room ≤ s.params.slbBytes := by omega
    rw [hs]
    exact State.decWrite_not_stuck (s := s.inPopped rest) hcopies f
  · rw [hs]; nofun
  · have hliteral : s.slbCount.toNat + 1 ≤ s.params.slbBytes :=
      (Nat.add_le_add_left (State.one_le_room hle hn) _).trans hfit
    rw [hs]
    exact State.decWrite_not_stuck (s := s.inPopped rest) hliteral f

/-- CMP does not touch the SLB. -/
theorem State.cmpStep_not_stuck (s : State) (f : Fault) : s.cmpStep ≠ .stuck f := by
  rcases s.cmpStep_cases with ⟨-, -, -, -, hs⟩ | ⟨-, -, -, hs⟩ | ⟨-, -, -, hs⟩ | ⟨-, -, -, hs⟩
    | ⟨b, rest, -, -, ⟨-, hs⟩ | ⟨-, hs⟩⟩ | ⟨-, -, ⟨-, hs⟩ | ⟨-, hs⟩⟩
  all_goals rw [hs]; nofun

/-- In UNP the command's checks have found a mode, and the row in the SLB (R201, R207). -/
theorem State.Inv.unpStep_not_stuck (h : s.Inv) (hp : s.phase = .unp) (f : Fault) : s.unpStep ≠ .stuck f := by
  by_cases hw : s.idxCount.toNat = s.lWidth.toNat
  · rw [State.unpStep_complete hw]; nofun
  by_cases hi : s.idxFree = 0
  · rw [State.unpStep_eq_holdOut_iff.2 ⟨hw, hi⟩]; nofun
  · rw [h.unpStep_push hp hw hi]; nofun

/-- Under the invariant a turn of the engine does not fault. -/
theorem State.Inv.engineTurn_not_fault (h : s.Inv) (f : Fault) : s.engineTurn ≠ .fault f := by
  have hstep : s.engineStep ≠ .stuck f := by
    unfold State.engineStep
    split
    next => nofun
    next hp => exact h.decStep_not_stuck hp f
    next => exact s.cmpStep_not_stuck f
    next hp => exact h.unpStep_not_stuck hp f
  unfold State.engineTurn
  cases hs : s.engineStep with
  | stuck g =>
    intro hg
    cases hg
    exact hstep hs
  | _ => nofun

/-- Settles O44: a step is a turn of the engine, a reset, or a host access, which is performed or refused. -/
theorem noStepFaults : Obligations.NoStepFaults := by
  intro s f h
  rcases hev : s.events with _ | ⟨e, es⟩
  case nil => rw [step_of_no_events s hev]; exact h.engineTurn_not_fault f
  case cons =>
    cases e with
    | engine => rw [step_of_engine hev]; exact (h.withEvents es).engineTurn_not_fault f
    | hardReset => rw [step_of_hardReset hev]; nofun
    | host a =>
      cases hd : decode s.params.baseAddr a with
      | error why => rw [step_of_decode_error hev hd]; nofun
      | ok i =>
        obtain ⟨t, ht⟩ := exec_next i (s.withEvents es)
        rw [step_of_decode_ok hev hd, ht]; nofun

end Sys2Proof.Machine
end

section
/-! Commands that do not start: a CMD write while busy, and an illegal word (R96, R230, R257, R260). -/

namespace Sys2Proof.Machine

variable {s : State} {d : Word}

/-- Settles O29: each of the operations is a write of its word to CMD (R103). -/
theorem busyIgnoresCommandWrites : Obligations.BusyIgnoresCommandWrites := by
  intro s d hp i hi
  have hbusy (w : Word) : execWrCmd w s = .next { s with herr := true } :=
    congrArg Host.Outcome.next (State.writeCmd_busy hp w)
  simp only [List.mem_cons, List.not_mem_nil, or_false] at hi
  rcases hi with rfl | rfl | rfl | rfl | rfl | rfl | rfl
  all_goals exact hbusy _

/-- R96's three conditions, by the number of the word. -/
theorem illegalCmd_eq_true_iff_toNat :
    illegalCmd d = true ↔
      5 ≤ d.toNat % 16 ∨ d.toNat / 32 ≠ 0 ∨ (d.toNat / 16 % 2 = 1 ∧ d.toNat % 16 ≠ 2) := by
  have hd := cmdWord_toNat d
  have hop := (cmdOp d).isLt
  have hbit := (cmdPad d).toNat_lt
  have hlow : d.toNat % 16 = (cmdOp d).toNat := by omega
  have hpad : d.toNat / 16 % 2 = (cmdPad d).toNat := by omega
  have hhigh : d.toNat / 32 = (cmdReserved d).toNat := by omega
  rw [← not_iff_not, Bool.not_eq_true, illegalCmd_eq_false_iff_fields, hlow, hpad, hhigh, Bool.toNat_eq_one]
  simp only [not_or, not_and, not_not, Nat.not_le]

/-- A write of an illegal word to CMD while idle is ILLEGAL_CMD (R230, R257). -/
theorem State.writeCmd_illegal (hp : s.phase = .idle) (hd : illegalCmd d = true) : s.writeCmd d = s.raiseIllegal := by
  simp [State.writeCmd, s.busy_eq_false_iff.2 hp, hd]

/-- Settles O30: a word is illegal by its number exactly as by its fields. -/
theorem illegalCommandIsReported : Obligations.IllegalCommandIsReported := by
  intro s d hd
  exact ⟨fun hp => congrArg Host.Outcome.next (State.writeCmd_illegal hp (illegalCmd_eq_true_iff_toNat.2 hd)),
    fun hp => congrArg Host.Outcome.next (State.writeCmd_busy hp d)⟩

end Sys2Proof.Machine
end

section
/-! HERR: what each operation leaves of it, by R260's table of what sets it and R261's of what clears it; the
engine does not touch it. -/

namespace Sys2Proof.Machine

variable {s t : State}

/-! ## The two tables -/

/-- The accesses that set HERR: those of R260's table. -/
def State.ignores (s : State) : Instr → Bool
  | .nop | .decomp | .comp | .compP | .unpack | .drow | .wrCmd _ => s.busy
  | .wrInData _ => s.eos || decide (s.inFifo.length = s.params.inDepth)
  | .wrInCtrl d => d.getLsbD 1 && s.busy
  | .rdSlbData | .wrSlbData _ => s.busy || decide (s.params.slbBytes ≤ s.slbAddr.toNat)
  | _ => false

/-- The accesses that clear HERR: an acknowledgement of it, and a soft reset (R261). -/
def clearsHerr : Instr → Bool
  | .wrStatus d => d.getLsbD 3
  | .wrCtrl d => d.getLsbD 0
  | _ => false

/-! ## HERR after each shared operation -/

theorem State.start_herr (s : State) (op : Op) (d : Word) : (s.start op d).herr = s.herr := by
  rw [State.start_eq_startEnds]
  cases (s.latched op d).issueError op <;> cases op <;> rfl

theorem State.writeCmd_herr (s : State) (d : Word) : (s.writeCmd d).herr = (s.herr || s.busy) := by
  rcases s.writeCmd_cases d with ⟨hp, hs⟩ | ⟨hp, -, hs⟩ | ⟨hp, -, -, hs⟩ | ⟨op, hp, -, -, hs⟩
  · simp [hs, s.busy_iff.2 hp]
  · simp [hs, s.busy_eq_false_iff.2 hp]
  · simp [hs, s.busy_eq_false_iff.2 hp]
  · simp [hs, s.busy_eq_false_iff.2 hp, State.start_herr]

theorem State.pushIn_herr (s : State) (b : Byte) :
    (s.pushIn b).herr = (s.herr || (s.eos || decide (s.inFifo.length = s.params.inDepth))) := by
  rcases s.pushIn_cases b with ⟨hfull, hs⟩ | ⟨heos, hroom, hs⟩
  · have hbit : (s.eos || decide (s.inFifo.length = s.params.inDepth)) = true := by simpa using hfull
    simp [hs, hbit]
  · simp [hs, heos, hroom]

theorem State.writeInCtrl_herr (s : State) (d : Word) :
    ((s.flushIn d).setEos d).herr = (s.herr || (d.getLsbD 1 && s.busy)) := by
  rw [State.setEos_eq]
  rcases s.flushIn_cases d with ⟨hd, hs⟩ | ⟨hd, hp, hs⟩ | ⟨hd, hp, hs⟩
  · simp [hs, -BitVec.getLsbD_eq_getElem, hd]
  · simp [hs, hd, s.busy_iff.2 hp, -BitVec.getLsbD_eq_getElem]
  · simp [hs, s.busy_eq_false_iff.2 hp]

theorem State.popOut_flags (s : State) : s.popOut.err = s.err ∧ s.popOut.herr = s.herr := by
  cases hf : s.outFifo with
  | nil => rw [State.popOut_nil hf]; exact ⟨rfl, rfl⟩
  | cons b rest => rw [State.popOut_cons hf]; exact ⟨rfl, rfl⟩

theorem State.popIdx_flags (s : State) : s.popIdx.err = s.err ∧ s.popIdx.herr = s.herr := by
  cases hf : s.idxFifo with
  | nil => rw [State.popIdx_nil hf]; exact ⟨rfl, rfl⟩
  | cons b rest => rw [State.popIdx_cons hf]; exact ⟨rfl, rfl⟩

theorem State.slbWindowRead_herr (s : State) :
    s.slbWindowRead.herr = (s.herr || (s.busy || decide (s.params.slbBytes ≤ s.slbAddr.toNat))) := by
  rcases s.slbWindowRead_cases with ⟨hp, hs⟩ | ⟨hp, hlt, hs⟩ | ⟨hp, hge, hs⟩
  · simp [hs, s.busy_iff.2 hp]
  · simp [hs, s.busy_eq_false_iff.2 hp, hlt]
  · simp [hs, hge]

theorem State.slbWindowWrite_herr (s : State) (b : Byte) :
    (s.slbWindowWrite b).herr = (s.herr || (s.busy || decide (s.params.slbBytes ≤ s.slbAddr.toNat))) := by
  rcases s.slbWindowWrite_cases b with ⟨hp, hs⟩ | ⟨hp, hlt, hs⟩ | ⟨hp, hge, hs⟩
  · simp [hs, s.busy_iff.2 hp]
  · simp [hs, s.busy_eq_false_iff.2 hp, hlt]
  · simp [hs, hge]

theorem State.writeCtrl_herr (s : State) (d : Word) : (s.writeCtrl d).herr = bif d.getLsbD 0 then false else s.herr := by
  rcases s.writeCtrl_cases d with ⟨hd, hs⟩ | ⟨hd, hs⟩
  · rw [hs, hd]; rfl
  · rw [hs, hd]; rfl

theorem State.acknowledge_herr_cond (s : State) (d : Word) :
    (s.acknowledge d).herr = bif d.getLsbD 3 then false else s.herr := by
  rw [State.acknowledge_herr]
  cases d.getLsbD 3 <;> simp

/-! ## HERR after each operation -/

/-- An operation clears HERR if it is in R261's table, and sets it if it is in R260's. -/
theorem exec_herr (i : Instr) (s : State) :
    ∃ t, exec i s = .next t ∧ t.herr = ((bif clearsHerr i then false else s.herr) || s.ignores i) := by
  cases i with
  | nop | decomp | comp | compP | unpack | drow | wrCmd _ => exact ⟨_, rfl, s.writeCmd_herr _⟩
  | wrInData d => exact ⟨_, rfl, s.pushIn_herr _⟩
  | wrInCtrl d => exact ⟨_, rfl, s.writeInCtrl_herr d⟩
  | rdSlbData => exact ⟨_, rfl, s.slbWindowRead_herr⟩
  | wrSlbData d => exact ⟨_, rfl, s.slbWindowWrite_herr _⟩
  | rdOutData => exact ⟨_, rfl, s.popOut_flags.2.trans (Bool.or_false _).symm⟩
  | rdIdxData => exact ⟨_, rfl, s.popIdx_flags.2.trans (Bool.or_false _).symm⟩
  | wrCtrl d => exact ⟨_, rfl, (s.writeCtrl_herr d).trans (Bool.or_false _).symm⟩
  | wrStatus d => exact ⟨_, rfl, (s.acknowledge_herr_cond d).trans (Bool.or_false _).symm⟩
  | _ => exact ⟨_, rfl, (Bool.or_false _).symm⟩

/-- The operations of R260's table are those of its five rows. -/
theorem State.ignores_iff (s : State) (i : Instr) :
    s.ignores i = true ↔
      (s.phase ≠ .idle
          ∧ (i = .nop ∨ i = .decomp ∨ i = .comp ∨ i = .compP ∨ i = .unpack ∨ i = .drow ∨ ∃ d, i = .wrCmd d))
        ∨ ((s.eos = true ∨ s.inFifo.length = s.params.inDepth) ∧ ∃ d, i = .wrInData d)
        ∨ (s.phase ≠ .idle ∧ ∃ d : Word, d.getLsbD 1 = true ∧ i = .wrInCtrl d)
        ∨ ((s.phase ≠ .idle ∨ s.params.slbBytes ≤ s.slbAddr.toNat) ∧ (i = .rdSlbData ∨ ∃ d, i = .wrSlbData d)) := by
  cases i with
  | nop | decomp | comp | compP | unpack | drow | wrCmd _ => exact s.busy_iff.trans (by simp)
  | wrInData d =>
    have hbit : s.ignores (.wrInData d) = (s.eos || decide (s.inFifo.length = s.params.inDepth)) := rfl
    simp [hbit]
  | wrInCtrl d =>
    have hbit : s.ignores (.wrInCtrl d) = (d.getLsbD 1 && s.busy) := rfl
    simp [hbit, s.busy_iff, and_comm]
  | rdSlbData =>
    have hbit : s.ignores .rdSlbData = (s.busy || decide (s.params.slbBytes ≤ s.slbAddr.toNat)) := rfl
    simp [hbit, s.busy_iff]
  | wrSlbData d =>
    have hbit : s.ignores (.wrSlbData d) = (s.busy || decide (s.params.slbBytes ≤ s.slbAddr.toNat)) := rfl
    simp [hbit, s.busy_iff]
  | _ => exact iff_of_false nofun (by simp)

/-- The operations of R261's table are those of its two rows. -/
theorem clearsHerr_iff (i : Instr) :
    clearsHerr i = true ↔
      (∃ d : Word, d.getLsbD 3 = true ∧ i = .wrStatus d) ∨ ∃ d : Word, d.getLsbD 0 = true ∧ i = .wrCtrl d := by
  cases i with
  | wrStatus d | wrCtrl d => simp [clearsHerr]
  | _ => exact iff_of_false nofun (by simp)

/-- Settles O27: from HERR = 0 an operation leaves HERR = 1 exactly when it is in R260's table. -/
theorem herrOnlyByTheFiveCases : Obligations.HerrOnlyByTheFiveCases := by
  intro i s h0
  obtain ⟨t, ht, hherr⟩ := exec_herr i s
  have hset : t.herr = s.ignores i := by rw [hherr, h0, Bool.cond_self, Bool.false_or]
  rw [ht, ← s.ignores_iff i, ← hset]
  simp

/-! ## HERR after each step -/

theorem State.accumulate_flags (s : State) (b : Byte) :
    (s.accumulate b).err = s.err ∧ (s.accumulate b).herr = s.herr := by
  rcases s.accumulate_cases b with ⟨-, -, -, hs⟩ | ⟨-, -, -, hs⟩ | ⟨-, -, hs⟩ | ⟨-, hs⟩
  all_goals simp [hs]

theorem State.cmpFlush_flags (s : State) : s.cmpFlush.err = s.err ∧ s.cmpFlush.herr = s.herr := by
  rcases s.cmpFlush_cases with ⟨-, hs⟩ | ⟨-, hs⟩
  all_goals simp [hs]

/-- No engine step touches HERR. -/
theorem EngineEffect.herr_eq (he : EngineEffect s t) : t.herr = s.herr := by
  cases he with
  | flush => exact s.cmpFlush_flags.2
  | input b rest => exact (State.accumulate_flags (s.inPopped rest) b).2
  | pad => exact (State.accumulate_flags { s with cPadDone := true } 0x00).2
  | _ => rfl

theorem State.engineTurn_herr (h : s.engineTurn = .next t) : t.herr = s.herr := by
  rcases State.engineTurn_next h with he | ⟨rfl, -⟩
  · exact (State.engineStep_effect he).herr_eq
  · rfl

/-- Settles O49: a turn of the engine keeps HERR, and of the operations only R261's clear it. -/
theorem herrIsSticky : Obligations.HerrIsSticky := by
  intro s t hstep h1 h0
  rcases step_cases hstep with ⟨-, he⟩ | ⟨es, -, he⟩ | ⟨es, hev, -⟩ | ⟨a, es, i, hev, hd, hx⟩
  · exact absurd (h1.symm.trans ((State.engineTurn_herr he).symm.trans h0)) nofun
  · exact absurd (h1.symm.trans ((State.engineTurn_herr he).symm.trans h0)) nofun
  · exact .inl (.inl ⟨es, hev⟩)
  · obtain ⟨u, hu, hherr⟩ := exec_herr i (s.withEvents es)
    cases hu.symm.trans hx
    have hclears : clearsHerr i = true := by
      cases hc : clearsHerr i with
      | true => rfl
      | false => simp [hherr, hc, h1] at h0
    rcases (clearsHerr_iff i).1 hclears with ⟨d, hbit, rfl⟩ | ⟨d, hbit, rfl⟩
    · exact .inr ⟨d, hbit, a, es, hev, hd⟩
    · exact .inl (.inr ⟨d, hbit, a, es, hev, hd⟩)

end Sys2Proof.Machine
end

section
/-! The four ways ERR rises (R254 to R257): two engine steps that fail, an illegal CMD word, and a start whose check
fails; and what each records and keeps. -/

namespace Sys2Proof.Machine

variable {s t : State} {i : Instr}

/-- What a step that sets ERR may leave of `s`: an error during execution, or one at issue. -/
inductive RaisesError (s : State) : State → Prop
  | truncated (hp : s.phase ≠ .idle) : RaisesError s (s.raiseError .streamTruncated)
  | overrun (b : Byte) (rest : List Byte) (hp : s.phase = .dec) (hf : s.inFifo = b :: rest) :
      RaisesError s ((s.decWrote rest b s.room false).raiseError .runOverrun)
  | illegal (hp : s.phase = .idle) : RaisesError s s.raiseIllegal
  | check (op : Op) (d : Word) (code : ErrorCode) (hp : s.phase = .idle)
      (hc : (s.latched op d).issueError op = some code) : RaisesError s ((s.latched op d).raiseError code)

/-! ## Where ERR rises -/

/-- Of the engine's steps only a truncation and an overrun set ERR (R145, R146, R176). -/
theorem EngineEffect.raisesError (he : EngineEffect s t) (h0 : s.err = false) (h1 : t.err = true) :
    RaisesError s t := by
  have hsame (hkeep : t.err = s.err) : RaisesError s t := by simp [hkeep, h0] at h1
  have hbusy := he.busy
  cases he with
  | truncated => exact .truncated hbusy
  | overrun b rest hp hf => exact .overrun b rest hp hf
  | flush => exact hsame s.cmpFlush_flags.1
  | input b rest => exact hsame (State.accumulate_flags (s.inPopped rest) b).1
  | pad => exact hsame (State.accumulate_flags { s with cPadDone := true } 0x00).1
  | _ => exact hsame rfl

/-- A write to CMD sets ERR by an illegal word, or by a start whose check fails. -/
theorem State.writeCmd_raisesError {d : Word} (h0 : s.err = false) (h1 : (s.writeCmd d).err = true) :
    RaisesError s (s.writeCmd d) := by
  rcases s.writeCmd_cases d with ⟨-, hs⟩ | ⟨hp, -, hs⟩ | ⟨-, -, -, hs⟩ | ⟨op, hp, -, -, hs⟩
  · simp [hs, h0] at h1
  · rw [hs]; exact .illegal hp
  · simp [hs, h0] at h1
  · rw [hs] at h1 ⊢
    rcases s.start_cases op d with ⟨code, hc, hs⟩ | ⟨-, hs⟩
    · rw [hs]; exact .check op d code hp hc
    · obtain ⟨-, herr, -⟩ := s.latched_clear op d
      exact absurd (h1.symm.trans ((congrArg State.err hs).trans herr)) nofun

theorem State.pushIn_err (s : State) (b : Byte) : (s.pushIn b).err = s.err := by
  rcases s.pushIn_cases b with ⟨-, hs⟩ | ⟨-, -, hs⟩
  all_goals simp [hs]

theorem State.writeInCtrl_err (s : State) (d : Word) : ((s.flushIn d).setEos d).err = s.err := by
  rw [State.setEos_eq]
  rcases s.flushIn_cases d with ⟨-, hs⟩ | ⟨-, -, hs⟩ | ⟨-, -, hs⟩
  all_goals simp [hs]

theorem State.slbWindowRead_err (s : State) : s.slbWindowRead.err = s.err := by
  rcases s.slbWindowRead_cases with ⟨-, hs⟩ | ⟨-, -, hs⟩ | ⟨-, -, hs⟩
  all_goals simp [hs]

theorem State.slbWindowWrite_err (s : State) (b : Byte) : (s.slbWindowWrite b).err = s.err := by
  rcases s.slbWindowWrite_cases b with ⟨-, hs⟩ | ⟨-, -, hs⟩ | ⟨-, -, hs⟩
  all_goals simp [hs]

/-- Of the host's accesses only a write to CMD sets ERR. -/
theorem HostEffect.raisesError (he : HostEffect s i t) (h0 : s.err = false) (h1 : t.err = true) :
    RaisesError s t := by
  have hsame (hkeep : t.err = s.err) : RaisesError s t := by simp [hkeep, h0] at h1
  cases he with
  | quiet | returns | operands => exact hsame rfl
  | command _ d => exact State.writeCmd_raisesError h0 h1
  | ctrl d =>
    rcases s.writeCtrl_cases d with ⟨-, hs⟩ | ⟨-, hs⟩
    all_goals simp [hs, h0] at h1
  | status d => simp [h0] at h1
  | push d => exact hsame (s.pushIn_err _)
  | inCtrl d => exact hsame (s.writeInCtrl_err d)
  | popOut => exact hsame s.popOut_flags.1
  | popIdx => exact hsame s.popIdx_flags.1
  | windowRead => exact hsame s.slbWindowRead_err
  | windowWrite d => exact hsame (s.slbWindowWrite_err _)

/-- A step that takes ERR from 0 to 1 is one of the four. -/
theorem step_raisesError (hstep : step s = .next t) (h0 : s.err = false) (h1 : t.err = true) :
    ∃ es, RaisesError (s.withEvents es) t := by
  obtain ⟨es, rfl | he | rfl | ⟨i, -, he⟩⟩ := step_effect hstep
  · exact absurd (h0.symm.trans h1) nofun
  · exact ⟨es, he.raisesError h0 h1⟩
  · cases h1
  · exact ⟨es, he.raisesError h0 h1⟩

/-! ## What an error records and keeps -/

/-- The output side, EOS, HERR and the RW registers: what every error keeps (R255, R257). -/
def State.keptByError (s : State) :
    (List Byte × List Byte × Bool × Bool) × (BitVec 32 × BitVec 4 × BitVec 4 × BitVec 16 × BitVec 17)
      × Bool × Bool × Bool × BitVec 18 :=
  ((s.outFifo, s.idxFifo, s.eos, s.herr), (s.len, s.bps, s.planes, s.bpl, s.width),
    s.doneIe, s.errIe, s.herrIe, s.slbAddr)

/-- No check of an issue reports ILLEGAL_CMD: that is found before the start (R256, R257). -/
theorem State.issueError_ne_illegalCmd (s : State) (op : Op) : s.issueError op ≠ some .illegalCmd := by
  cases op with
  | decomp => unfold State.issueError; dsimp only; split_ifs <;> simp
  | comp => simp [State.issueError]
  | unpack | drow =>
    unfold State.issueError State.geometryError
    dsimp only
    split_ifs <;> simp

theorem RaisesError.phase_idle (hr : RaisesError s t) : t.phase = .idle := by
  cases hr with
  | illegal hp => exact hp
  | truncated | overrun | check => rfl

theorem RaisesError.keptByError_eq (hr : RaisesError s t) : t.keptByError = s.keptByError := by
  cases hr with
  | check op => cases op <;> rfl
  | truncated | overrun | illegal => rfl

/-- Only a start whose check fails has changed `op` and the latched operands (R231, R233). -/
theorem RaisesError.latchedOperands_eq (hr : RaisesError s t) (h : s.phase ≠ .idle ∨ t.errcode = .illegalCmd) :
    t.latchedOperands = s.latchedOperands := by
  cases hr with
  | check op d code hp hc =>
    have hcode : code = .illegalCmd := h.resolve_left (not_not_intro hp)
    exact absurd (hcode ▸ hc) (State.issueError_ne_illegalCmd _ op)
  | truncated | overrun | illegal => rfl

/-- An overrun has filled the scanline (R145). -/
theorem State.decWrote_room_slbCount {rest : List Byte} {v : Byte} {w : Bool} (hle : s.slbCount.toNat ≤ s.lN.toNat) :
    (s.decWrote rest v s.room w).slbCount = s.lN := by
  refine BitVec.eq_of_toNat_eq ((State.decWrote_slbCount hle le_rfl).trans ?_)
  unfold State.room
  omega

/-- An error during execution is a truncation, which takes and writes nothing, or an overrun, which has taken one byte
and filled the scanline (R145, R146, R176). -/
theorem RaisesError.during (hr : RaisesError s t) (h : s.Inv) (hp : s.phase ≠ .idle) :
    t.outCount = s.outCount ∧ t.idxCount = s.idxCount
      ∧ (t.errcode = .streamTruncated ∧ t.slb = s.slb ∧ t.slbCount = s.slbCount
            ∧ t.inCount = s.inCount ∧ t.inFifo = s.inFifo
          ∨ t.errcode = .runOverrun ∧ s.phase = .dec ∧ t.slbCount = s.lN ∧ t.inCount = s.inCount + 1
            ∧ t.inFifo = s.inFifo.tail) := by
  cases hr with
  | truncated => exact ⟨rfl, rfl, .inl ⟨rfl, rfl, rfl, rfl, rfl⟩⟩
  | overrun b rest hdec hf =>
    obtain ⟨-, hle, -⟩ := h.dec hdec
    exact ⟨rfl, rfl, .inr ⟨rfl, hdec, State.decWrote_room_slbCount (rest := rest) (v := b) (w := false) hle, rfl,
      (congrArg List.tail hf).symm⟩⟩
  | illegal hidle | check _ _ _ hidle => exact absurd hidle hp

/-- An error at issue keeps the input FIFO and the SLB; an illegal word keeps the counters, which a start has cleared
before its check (R232, R256, R257). -/
theorem RaisesError.atIssue (hr : RaisesError s t) (hp : s.phase = .idle) :
    t.inFifo = s.inFifo ∧ t.slb = s.slb
      ∧ (t.errcode = .illegalCmd →
          t.inCount = s.inCount ∧ t.outCount = s.outCount ∧ t.slbCount = s.slbCount ∧ t.idxCount = s.idxCount)
      ∧ (t.errcode ≠ .illegalCmd → t.inCount = 0 ∧ t.outCount = 0 ∧ t.slbCount = 0 ∧ t.idxCount = 0) := by
  cases hr with
  | truncated hbusy => exact absurd hp hbusy
  | overrun _ _ hdec => cases hp.symm.trans hdec
  | illegal => exact ⟨rfl, rfl, fun _ => ⟨rfl, rfl, rfl, rfl⟩, fun hne => absurd rfl hne⟩
  | check op d code _ hc =>
    have hne : code ≠ .illegalCmd := fun hcode => State.issueError_ne_illegalCmd _ op (hcode ▸ hc)
    cases op
    all_goals exact ⟨rfl, rfl, fun hcode => absurd hcode hne, fun _ => ⟨rfl, rfl, rfl, rfl⟩⟩

/-- An ended command that meets the invariant with ERR set has a code, no DONE, and the run state clear (R28, R48,
R49). -/
theorem State.Inv.failed (h : t.Inv) (hp : t.phase = .idle) (herr : t.err = true) :
    t.done = false ∧ t.errcode ≠ .none ∧ t.RunClear := by
  obtain ⟨hcode, hdone, -⟩ := h.flags
  refine ⟨?_, fun hnone => ?_, h.runClear hp⟩
  · simpa [herr] using hdone
  · exact absurd (herr.symm.trans (hcode.2 hnone)) nofun

/-- Settles O46: the four ways ERR rises, with what each records and keeps; the rest is the invariant of the state
left. -/
theorem errorsRecordTheCodeAndKeepTheRest : Obligations.ErrorsRecordTheCodeAndKeepTheRest := by
  intro s t h hstep h0 h1
  obtain ⟨es, hr⟩ := step_raisesError hstep h0 h1
  have hp := hr.phase_idle
  obtain ⟨hdone, hcode, hwait, hcnt, hhave, hval, hccnt, hpad⟩ := (stepKeepsInvariant s t h hstep).failed hp h1
  have hkept := hr.keptByError_eq
  simp only [State.keptByError, Prod.mk.injEq] at hkept
  obtain ⟨⟨hout, hidx, heos, hherr⟩, ⟨hlen, hbps, hplanes, hbpl, hwidth⟩, hdoneIe, herrIe, hherrIe, hslbAddr⟩ := hkept
  refine ⟨hp, hdone, hcode, hwait, hcnt, hhave, hval, hccnt, hpad, hout, hidx, heos, hherr, hlen, hbps, hplanes, hbpl,
    hwidth, hdoneIe, herrIe, hherrIe, hslbAddr, fun hcase => ?latched, fun hbusy => ?during, fun hidle => ?atIssue⟩
  case latched =>
    have hlatched : t.latchedOperands = s.latchedOperands := hr.latchedOperands_eq hcase
    simpa only [State.latchedOperands, Prod.mk.injEq] using hlatched
  case during => exact hr.during (h.withEvents es) hbusy
  case atIssue => exact hr.atIssue hidle

end Sys2Proof.Machine
end

section
/-! Resets and holds (R281, R290): the reset input against a soft reset; what a host access does to what the engine
reads while a command runs; and the accesses that end a hold. -/

namespace Sys2Proof.Machine

variable {s t : State} {i : Instr}

/-! ## The reset input -/

/-- Settles O11: both reset the state without the event. -/
theorem hardResetEqualsSoftReset : Obligations.HardResetEqualsSoftReset := by
  intro s es d hev hd
  have hsoft : (s.withEvents es).writeCtrl d = (s.withEvents es).resetBlock := if_pos hd
  calc step s = .next (s.withEvents es).resetBlock := step_of_hardReset hev
    _ = exec (.wrCtrl d) (s.withEvents es) := congrArg Host.Outcome.next hsoft.symm

/-! ## When a command waits, in any state -/

/-- The engine waits for input exactly when a byte is due, there is none, and more may come. -/
theorem State.inWait_iff_input :
    s.inWait = true ↔
      ((s.phase = .dec ∧ s.slbCount ≠ s.lN) ∨ (s.phase = .cmp ∧ s.inCount < s.lLen))
        ∧ s.inFifo = [] ∧ s.eos = false := by
  rw [State.inWait_iff]
  cases hp : s.phase with
  | idle => simp [State.engineStep, hp]
  | dec => simp [State.engineStep, hp, State.decStep_eq_holdIn_iff]
  | cmp => simp [State.engineStep, hp, State.cmpStep_eq_holdIn_iff]
  | unp => simp [State.engineStep, hp, State.unpStep_ne_holdIn]

/-- CMP waits for output exactly when fewer than two bytes of output space are left, a byte of input that is due is
there, and an ended input leaves a run to flush. Unlike `State.cmpStep_eq_holdOut_iff` this asks no bound on
IN_COUNT. -/
theorem State.cmpStep_eq_holdOut_iff_due :
    s.cmpStep = .holdOut ↔ s.outFree < 2 ∧ (s.inCount < s.lLen → s.inFifo ≠ [])
      ∧ (s.inCount = s.lLen ∧ (s.needPad = false ∨ s.cPadDone = true) → s.cHave = true) := by
  rcases s.cmpStep_cases with ⟨heq, -, hc, ho, hs⟩ | ⟨heq, hd, hc, hs⟩ | ⟨hl, hf, -, hs⟩ | ⟨hl, hf, -, hs⟩
    | ⟨b, rest, hl, hf, ⟨ho, hs⟩ | ⟨ho, hs⟩⟩ | ⟨hn, hl, ⟨ho, hs⟩ | ⟨ho, hs⟩⟩
  · simp [hs, heq, hc, ho]
  · rw [hs]
    refine iff_of_false nofun fun ⟨ho, _, hhave⟩ => ?_
    exact absurd ho (Nat.not_lt.2 (hc.resolve_left (by simp [hhave ⟨heq, hd⟩])))
  · simp [hs, hf, hl]
  · simp [hs, hf, hl]
  · simp [hs, hf, ho, BitVec.ne_of_lt hl]
  · simp [hs, Nat.not_lt.2 ho]
  · exact iff_of_true hs ⟨ho, fun hlt => absurd hlt hl, fun hend => absurd hend hn⟩
  · simp [hs, Nat.not_lt.2 ho]

/-- The engine waits for output exactly when CMP does or UNP does. -/
theorem State.outWait_iff_space :
    s.outWait = true ↔
      (s.phase = .cmp ∧ s.outFree < 2 ∧ (s.inCount < s.lLen → s.inFifo ≠ [])
          ∧ (s.inCount = s.lLen ∧ (s.needPad = false ∨ s.cPadDone = true) → s.cHave = true))
        ∨ (s.phase = .unp ∧ s.idxCount.toNat ≠ s.lWidth.toNat ∧ s.idxFree = 0) := by
  rw [State.outWait_iff, ← State.cmpStep_eq_holdOut_iff_due, ← State.unpStep_eq_holdOut_iff]
  cases hp : s.phase with
  | dec => simp [State.engineStep, hp, State.decStep_ne_holdOut]
  | idle | cmp | unp => simp [State.engineStep, hp]

/-! ## What the engine reads -/

/-- The state with fixed values for all that no engine step reads: the flags, the registers that the host writes, the
last word read and the events (R51, R83). -/
def State.engineView (s : State) : State :=
  { s with
    len := 0, bps := 0, planes := 0, bpl := 0, width := 0, doneIe := false, errIe := false, herrIe := false
    slbAddr := 0, done := false, err := false, errcode := .none, herr := false, rdata := 0, events := [] }

@[simp] theorem State.engineView_phase (s : State) : s.engineView.phase = s.phase := rfl

@[simp] theorem State.engineView_inWait (s : State) : s.engineView.inWait = s.inWait :=
  Bool.eq_iff_iff.2 (State.inWait_iff_input.trans (State.inWait_iff_input (s := s)).symm)

@[simp] theorem State.engineView_outWait (s : State) : s.engineView.outWait = s.outWait :=
  Bool.eq_iff_iff.2 (State.outWait_iff_space.trans (State.outWait_iff_space (s := s)).symm)

/-- The accesses by which the host moves a running command's streams: a push, EOS_SET, and the pops (R115, R117, R119,
R120). -/
inductive StreamAccess (s : State) : Instr → State → Prop
  | push (d : Word) : StreamAccess s (.wrInData d) { s with inFifo := s.inFifo ++ [d.extractLsb' 0 8] }
  | eosSet (d : Word) (hd : d.getLsbD 0 = true) : StreamAccess s (.wrInCtrl d) { s with eos := true }
  | popOut (rest : List Byte) : StreamAccess s .rdOutData { s with outFifo := rest }
  | popIdx (rest : List Byte) : StreamAccess s .rdIdxData { s with idxFifo := rest }

/-- While a command runs, a write to IN_CTRL has no FLUSH part: it sets EOS, or leaves what the engine reads. -/
theorem State.writeInCtrl_engineView (hp : s.phase ≠ .idle) (d : Word) :
    ((s.flushIn d).setEos d).engineView = { s.engineView with eos := s.eos || d.getLsbD 0 } := by
  rw [State.setEos_eq]
  rcases s.flushIn_cases d with ⟨-, hs⟩ | ⟨-, -, hs⟩ | ⟨-, hidle, -⟩
  · rw [hs]; rfl
  · rw [hs]; rfl
  · exact absurd hidle hp

/-- While a command runs, a host access leaves what the engine reads, resets the block, or moves a stream. -/
theorem HostEffect.engineView_cases (he : HostEffect s i t) (hp : s.phase ≠ .idle) :
    t.engineView = s.engineView ∨ (∃ d : Word, d.getLsbD 0 = true ∧ i = .wrCtrl d)
      ∨ StreamAccess s.engineView i t.engineView := by
  cases he with
  | quiet | returns | operands | status => exact .inl rfl
  | ctrl d =>
    rcases s.writeCtrl_cases d with ⟨hd, -⟩ | ⟨-, hs⟩
    · exact .inr (.inl ⟨d, hd, rfl⟩)
    · rw [hs]; exact .inl rfl
  | command _ d => rw [State.writeCmd_busy hp]; exact .inl rfl
  | push d =>
    rcases s.pushIn_cases (d.extractLsb' 0 8) with ⟨-, hs⟩ | ⟨-, -, hs⟩
    · rw [hs]; exact .inl rfl
    · rw [hs]; exact .inr (.inr (.push d))
  | inCtrl d =>
    rw [State.writeInCtrl_engineView hp]
    cases hd : d.getLsbD 0 with
    | false => rw [Bool.or_false]; exact .inl rfl
    | true => rw [Bool.or_true]; exact .inr (.inr (.eosSet d hd))
  | popOut =>
    cases hf : s.outFifo with
    | nil => rw [State.popOut_nil hf]; exact .inl rfl
    | cons b rest => rw [State.popOut_cons hf]; exact .inr (.inr (.popOut rest))
  | popIdx =>
    cases hf : s.idxFifo with
    | nil => rw [State.popIdx_nil hf]; exact .inl rfl
    | cons b rest => rw [State.popIdx_cons hf]; exact .inr (.inr (.popIdx rest))
  | windowRead =>
    rcases s.slbWindowRead_cases with ⟨-, hs⟩ | ⟨hidle, -⟩ | ⟨hidle, -⟩
    · rw [hs]; exact .inl rfl
    · exact absurd hidle hp
    · exact absurd hidle hp
  | windowWrite d =>
    rcases s.slbWindowWrite_cases (d.extractLsb' 0 8) with ⟨-, hs⟩ | ⟨hidle, -⟩ | ⟨hidle, -⟩
    · rw [hs]; exact .inl rfl
    · exact absurd hidle hp
    · exact absurd hidle hp

/-! ## The accesses that end a hold -/

/-- An input hold is ended by a push or by EOS_SET: the pops change only the output side (R290). -/
theorem StreamAccess.lifts_inWait (ha : StreamAccess s i t) (h1 : s.inWait = true) (h0 : t.inWait = false) :
    (∃ d, i = .wrInData d) ∨ ∃ d : Word, d.getLsbD 0 = true ∧ i = .wrInCtrl d := by
  have hheld := State.inWait_iff_input.1 h1
  cases ha with
  | push d => exact .inl ⟨d, rfl⟩
  | eosSet d hd => exact .inr ⟨d, hd, rfl⟩
  | popOut | popIdx => cases h0.symm.trans (State.inWait_iff_input.2 hheld)

/-- An output hold is ended by a pop of the FIFO that is full: a push leaves input there, EOS is not what the hold is
for, and the other FIFO does not matter (R290). -/
theorem StreamAccess.lifts_outWait (ha : StreamAccess s i t) (h1 : s.outWait = true) (h0 : t.outWait = false) :
    (s.phase = .cmp ∧ i = .rdOutData) ∨ (s.phase = .unp ∧ i = .rdIdxData) := by
  have hkept {P : Prop} (ht : t.outWait = true) : P := nomatch h0.symm.trans ht
  rcases State.outWait_iff_space.1 h1 with ⟨hp, hfree, hinput, hflush⟩ | hunp
  case inl =>
    cases ha with
    | popOut => exact .inl ⟨hp, rfl⟩
    | push d =>
      have hinput' : s.inCount < s.lLen → s.inFifo ++ [d.extractLsb' 0 8] ≠ [] := fun _ => List.concat_ne_nil _ _
      exact hkept (State.outWait_iff_space.2 (.inl ⟨hp, hfree, hinput', hflush⟩))
    | eosSet | popIdx => exact hkept (State.outWait_iff_space.2 (.inl ⟨hp, hfree, hinput, hflush⟩))
  case inr =>
    cases ha with
    | popIdx => exact .inr ⟨hunp.1, rfl⟩
    | push | eosSet | popOut => exact hkept (State.outWait_iff_space.2 (.inr hunp))

/-- The engine waits only while a command runs. -/
theorem State.busy_of_wait (hw : s.inWait = true ∨ s.outWait = true) : s.phase ≠ .idle := by
  intro hp
  simp [State.inWait, State.outWait, State.engineStep, hp] at hw

/-- A turn of the engine while it waits does nothing (R235, R290). -/
theorem State.engineTurn_of_wait (hw : s.inWait = true ∨ s.outWait = true) : s.engineTurn = .next s := by
  rcases hw with hin | hout
  · simp [State.engineTurn, State.inWait_iff.1 hin]
  · simp [State.engineTurn, State.outWait_iff.1 hout]

/-- A step from a state that waits leaves what the engine reads, resets the block, or moves a stream. -/
theorem step_of_wait (hstep : step s = .next t) (hw : s.inWait = true ∨ s.outWait = true) :
    t.engineView = s.engineView ∨ s.nextResets
      ∨ ∃ i, s.nextIs i ∧ StreamAccess s.engineView i t.engineView := by
  have hp : s.phase ≠ .idle := State.busy_of_wait hw
  have engine {es : List Event} (he : (s.withEvents es).engineTurn = .next t) : t.engineView = s.engineView := by
    have hw' : (s.withEvents es).inWait = true ∨ (s.withEvents es).outWait = true := by
      rw [← State.engineView_inWait, ← State.engineView_outWait] at hw ⊢
      exact hw
    cases (State.engineTurn_of_wait hw').symm.trans he
    rfl
  rcases step_cases hstep with ⟨-, he⟩ | ⟨es, -, he⟩ | ⟨es, hev, -⟩ | ⟨a, es, i, hev, hd, hx⟩
  · exact .inl (engine (es := s.events) he)
  · exact .inl (engine he)
  · exact .inr (.inl (.inl ⟨es, hev⟩))
  · obtain ⟨u, hu, heff⟩ := exec_effect i (s.withEvents es)
    cases hu.symm.trans hx
    rcases heff.engineView_cases hp with hview | ⟨d, hsrst, rfl⟩ | ha
    · exact .inl hview
    · exact .inr (.inl (.inr ⟨d, hsrst, a, es, hev, hd⟩))
    · exact .inr (.inr ⟨i, ⟨a, es, hev, hd⟩, ha⟩)

/-- Settles O51: a hold that ends is one the engine reads differently, so a reset or the move of a stream has come. -/
theorem whatLiftsAHold : Obligations.WhatLiftsAHold := by
  intro s t hstep
  rw [← s.engineView_inWait, ← t.engineView_inWait, ← s.engineView_outWait, ← t.engineView_outWait]
  refine ⟨fun h1 h0 => ?input, fun h1 h0 => ?output⟩
  case input =>
    rcases step_of_wait hstep (.inl (s.engineView_inWait ▸ h1)) with hview | hreset | ⟨i, hnext, ha⟩
    · cases h0.symm.trans (hview ▸ h1)
    · exact .inr (.inr hreset)
    · rcases ha.lifts_inWait h1 h0 with ⟨d, rfl⟩ | ⟨d, hd, rfl⟩
      · exact .inl ⟨d, hnext⟩
      · exact .inr (.inl ⟨d, hd, hnext⟩)
  case output =>
    rcases step_of_wait hstep (.inr (s.engineView_outWait ▸ h1)) with hview | hreset | ⟨i, hnext, ha⟩
    · cases h0.symm.trans (hview ▸ h1)
    · exact .inr (.inr hreset)
    · rcases ha.lifts_outWait h1 h0 with ⟨hp, rfl⟩ | ⟨hp, rfl⟩
      · exact .inl ⟨hp, hnext⟩
      · exact .inr (.inl ⟨hp, hnext⟩)

end Sys2Proof.Machine
end
